-- ==== Sys2Proof/Word.lean ====
section
/-! DEFINITION. The bit-level types of the Sefrin DC48: bytes, multi-byte fields and the sets
that the part sends as fields of bits (R200, R201). -/

namespace Sys2Proof

/-- One byte of a frame, or a one-byte field (R178). -/
abbrev Byte := BitVec 8

/-- A two-byte field (R200). -/
abbrev Word16 := BitVec 16

/-- A four-byte field: meter number, counter, meter time, route time, rate, ceiling (R200). -/
abbrev Word32 := BitVec 32

/-- A set of the twelve indicators, at the bit positions of R201. -/
abbrev IndicatorSet := BitVec 12

/-- A set of tamper classes 0 to 3, class n at bit n (R201). -/
abbrev ClassSet := BitVec 4

/-- A set of events, at the bit positions of R201. -/
abbrev EventSet := BitVec 11

/-- A set of profile indices, index n at bit n (R201). -/
abbrev ProfileSet := BitVec 16

end Sys2Proof
end

