-- ==== Sys2Proof/Config.lean ====
section
/-! DEFINITION. The fixed sizes of the part and the values its reference leaves open. -/

namespace Sys2Proof.Config

/-- Sets of the meter directory (R2). -/
def directorySets : Nat := 2048
/-- Ways of a set, in the directory and in the stranger table (R3, R130). -/
def ways : Nat := 4
/-- Positions of the directory; also the END cursor of a query (R3, R144). -/
def directoryPlaces : Nat := 8192
/-- Sets of the stranger table (R130). -/
def strangerSets : Nat := 64
/-- Positions of the stranger table; also the last next position of a walk (R130, R139). -/
def strangerPlaces : Nat := 256
/-- The greatest stop number is one below this (R23). -/
def stopNumbers : Nat := 512
/-- Places of the intake queue (R44). -/
def intakePlaces : Nat := 16
/-- Places of the alert queue (R96). -/
def alertPlaces : Nat := 32
/-- Places of the sweep list (R115). -/
def sweepPlaces : Nat := 1024
/-- Places of a cab or depot output queue for responses to requests (R182). -/
def requestPlaces : Nat := 8
/-- Places of the radio port's output queue (R183). -/
def answerPlaces : Nat := 4
/-- Outstanding batches (R163). -/
def batchPlaces : Nat := 2
/-- Items of one batch (R166). -/
def batchItems : Nat := 64
/-- Seconds a batch waits for its confirmation (R166). -/
def confirmSeconds : Nat := 20
/-- Greatest batch number (R164). -/
def lastBatchNumber : Nat := 65535
/-- Match entries of one scan (R144). -/
def matchEntries : Nat := 16
/-- Entries given by READ ALERT, READ SWEEP and READ STRANGERS (R101, R123, R139). -/
def readEntries : Nat := 8
/-- Least and greatest length field of a request frame (R178). -/
def leastLength : Nat := 2
def greatestLength : Nat := 64

/-- FREE VALUE (log 12, safe). Whether ENDED joins the depot's output queue ahead of OK at the
n-th depot CLEAR ROUTE that ends the depot's own scan: "either may be the first of the two" (R182). -/
opaque endedFirst (n : Nat) : Bool

/-- FREE VALUE (log 13, safe). What field `field` of an unloaded profile index would read as: "an unloaded index
holds no values" (R65). No run that keeps the rules reads one. -/
opaque unloadedProfileField (index field : Nat) : Word32

end Sys2Proof.Config
end

