-- ==== Sys2Proof/Syntax.lean ====
section
/-! DEFINITION. The commands: one constructor of `Instr` for each row of spec/opcode_table.json.
The table gives no bits; a command's operands are what the event carries (INVENTORY, Instructions). -/

namespace Sys2Proof

/-- The three serial ports (00_scope.md). -/
inductive Line where
  | radio
  | cab
  | depot
  deriving DecidableEq, Repr

/-- The two ports that carry requests and hold an event view (00_scope.md). -/
inductive HostPort where
  | cab
  | depot
  deriving DecidableEq, Repr

/-- A complete frame as its port controller holds it (R179). -/
inductive RxFrame where
  /-- Ended by its length: code, tag, body and the check as received. The length field is 2 more
  than the body's length. -/
  | byLength (code tag : Byte) (body : List Byte) (check : Word16)
  /-- Ended short by silence, or by an out-of-range length: the bytes the frame held. -/
  | malformed (bytes : List Byte)
  deriving DecidableEq, Repr

/-- The commands of the part. `tag` and `body` are a request frame's tag and body bytes (R178). -/
inductive Instr where
  /-- TELEGRAM (R42): a radio frame with code 01h ends by its length. -/
  | telegram (tag : Byte) (body : List Byte) (check : Word16)
  /-- RADIO_UNKNOWN_CODE (R43): a radio frame with another code ends by its length. -/
  | radioUnknownCode (code tag : Byte) (body : List Byte) (check : Word16)
  /-- TELEGRAM_COMPLETION (R48). -/
  | telegramCompletion
  /-- BEGIN_LOAD (R22). -/
  | beginLoad (tag : Byte) (body : List Byte)
  /-- LOAD_STOP (R23). -/
  | loadStop (tag : Byte) (body : List Byte)
  /-- LOAD_MEMBER (R8). -/
  | loadMember (tag : Byte) (body : List Byte)
  /-- LOAD_PROFILE (R64). -/
  | loadProfile (tag : Byte) (body : List Byte)
  /-- LOAD_CLASS (R84). -/
  | loadClass (tag : Byte) (body : List Byte)
  /-- FINISH_LOAD (R27). -/
  | finishLoad (tag : Byte) (body : List Byte)
  /-- CLEAR_ROUTE (R37). -/
  | clearRoute (tag : Byte) (body : List Byte)
  /-- BEGIN_UPLOAD (R35). -/
  | beginUpload (tag : Byte) (body : List Byte)
  /-- NEXT_BATCH (R165). -/
  | nextBatch (tag : Byte) (body : List Byte)
  /-- CONFIRM_BATCH (R168). -/
  | confirmBatch (tag : Byte) (body : List Byte)
  /-- REJECT_BATCH (R169). -/
  | rejectBatch (tag : Byte) (body : List Byte)
  /-- CONFIRM_TIMER_EXPIRY (R167) of the outstanding batch with this number. -/
  | confirmTimerExpiry (number : Nat)
  /-- CLEAR_TAMPER (R102). -/
  | clearTamper (tag : Byte) (body : List Byte)
  /-- START_ROUTE (R29). -/
  | startRoute (tag : Byte) (body : List Byte)
  /-- END_ROUTE (R32). -/
  | endRoute (tag : Byte) (body : List Byte)
  /-- OPEN_STOP (R112). -/
  | openStop (tag : Byte) (body : List Byte)
  /-- CLOSE_STOP (R113). -/
  | closeStop (tag : Byte) (body : List Byte)
  /-- LINGER_EXPIRY (R118) of this slot's timer. -/
  | lingerExpiry (slot : Fin 4)
  /-- READ_STOP (R125). -/
  | readStop (tag : Byte) (body : List Byte)
  /-- SKIP_SWEEP (R122). -/
  | skipSweep (tag : Byte) (body : List Byte)
  /-- READ_SWEEP (R123). -/
  | readSweep (tag : Byte) (body : List Byte)
  /-- ACKNOWLEDGE_ALERT (R98). -/
  | acknowledgeAlert (tag : Byte) (body : List Byte)
  /-- READ_ALERT (R101). -/
  | readAlert (tag : Byte) (body : List Byte)
  /-- SET_PASS (R100). -/
  | setPass (tag : Byte) (body : List Byte)
  /-- READ_MEMBER (R16). -/
  | readMember (port : HostPort) (tag : Byte) (body : List Byte)
  /-- READ_STRANGERS (R139). -/
  | readStrangers (port : HostPort) (tag : Byte) (body : List Byte)
  /-- QUERY_MEMBERS (R146). -/
  | queryMembers (port : HostPort) (tag : Byte) (body : List Byte)
  /-- SCAN_REACH (R148) of this port's scan. -/
  | scanReach (port : HostPort)
  /-- CLEAR_EVENTS (R189). -/
  | clearEvents (port : HostPort) (tag : Byte) (body : List Byte)
  /-- SET_MASK (R190). -/
  | setMask (port : HostPort) (tag : Byte) (body : List Byte)
  /-- READ_STATE (R193). -/
  | readState (port : HostPort) (tag : Byte) (body : List Byte)
  /-- BADFRAME (R180): a frame that is malformed or fails its check ends on this port. -/
  | badFrame (port : HostPort) (frame : RxFrame)
  /-- UNKNOWN_CODE (R180): a sound frame whose code is no request of this port ends on it. -/
  | unknownCode (port : HostPort) (code tag : Byte) (body : List Byte)
  /-- RECEIVE_SILENCE (R179): this receive line has been silent for 1 millisecond. -/
  | receiveSilence (line : Line)
  /-- OVERRUN (R183): a byte arrives on this receive line; while a frame is held it starts an overrun. -/
  | overrun (line : Line) (byte : Byte)
  /-- TRANSMIT_COMPLETION (R182): the last byte of this line's head response has been sent. -/
  | transmitCompletion (line : Line)
  /-- DOCK_LINE_RISING (R184). -/
  | dockLineRising
  /-- DOCK_LINE_FALLING (R184). -/
  | dockLineFalling
  /-- CAB_PORT_RESET (R198): the cab port reset line is asserted. -/
  | cabPortReset
  /-- DEPOT_PORT_RESET (R199): the depot port reset line is asserted. -/
  | depotPortReset
  /-- POWER_UP (R194). `memoryKept` is false when the backup cell lost the memory or it was replaced. -/
  | powerUp (memoryKept : Bool)
  /-- POWER_LOSS (R196). -/
  | powerLoss
  /-- RESET (R197): the RESET line is asserted. -/
  | reset
  /-- RESET_RELEASE (R197). -/
  | resetRelease
  /-- END_OF_SECOND (R30). -/
  | endOfSecond
  /-- CAB_PORT_RESET_RELEASE (R198). -/
  | cabPortResetRelease
  /-- DEPOT_PORT_RESET_RELEASE (R199). -/
  | depotPortResetRelease
  deriving DecidableEq, Repr

end Sys2Proof
end

