-- ==== Sys2Proof/Decode.lean ====
section
/-! DEFINITION. Bytes and frames: the byte order of R200, the envelope of R178, the request codes of R202; and
`decodeTableWord`, which answers none, since spec/opcode_table.json gives no row any bits (log 2). -/

namespace Sys2Proof

/-- The command a word of the opcode table spells: none, for the table gives bits to no row. -/
def decodeTableWord (_nbits _w : Nat) : Option Instr := none

/-- Byte i of a body; 0 past its end (every reader tests the body's length first). -/
def byteAt (body : List Byte) (i : Nat) : Byte := body.getD i 0

/-- The one-byte field at offset i. -/
def u8 (body : List Byte) (i : Nat) : Nat := (byteAt body i).toNat

/-- The two-byte field at offset i, most significant byte first (R200). -/
def u16 (body : List Byte) (i : Nat) : Nat := u8 body i * 256 + u8 body (i + 1)

/-- The four-byte field at offset i, most significant byte first (R200). -/
def u32 (body : List Byte) (i : Nat) : Word32 :=
  BitVec.ofNat 32 (u16 body i * 65536 + u16 body (i + 2))

/-- A number as one byte. -/
def be8 (n : Nat) : List Byte := [BitVec.ofNat 8 n]

/-- A number as two bytes, most significant first (R200). -/
def be16 (n : Nat) : List Byte := [BitVec.ofNat 8 (n / 256), BitVec.ofNat 8 n]

/-- A four-byte field, most significant byte first (R200). -/
def be32 (w : Word32) : List Byte := be16 (w.toNat / 65536) ++ be16 w.toNat

/-- Sum of the values of some bytes. -/
def byteSum (bytes : List Byte) : Nat := (bytes.map BitVec.toNat).sum

/-- A frame's bytes from its length field to the end of its body (R178). -/
def frameHead (code tag : Byte) (body : List Byte) : List Byte :=
  be16 (body.length + 2) ++ code :: tag :: body

/-- The check of a frame: the sum of its length, code, tag and body bytes, modulo 65,536 (R178). -/
def frameCheck (code tag : Byte) (body : List Byte) : Word16 :=
  BitVec.ofNat 16 (byteSum (frameHead code tag body))

/-- A whole frame as sent: head, then the check most significant byte first (R178). -/
def frameBytes (code tag : Byte) (body : List Byte) (check : Word16) : List Byte :=
  frameHead code tag body ++ be16 check.toNat

/-- A length field outside 2 to 64 (R178, R179). -/
def lengthOutOfRange (n : Nat) : Bool := n < Config.leastLength || Config.greatestLength < n

/-- The bytes of a frame on the line. -/
def RxFrame.bytes : RxFrame → List Byte
  | .byLength code tag body check => frameBytes code tag body check
  | .malformed bytes => bytes

/-- The tag an answer to the frame echoes: its tag byte as received, when the frame held its length,
code and tag; 0 otherwise (R180). -/
def RxFrame.tag : RxFrame → Byte
  | .byLength _ tag _ _ => tag
  | .malformed bytes => byteAt bytes 3

/-- The frame passes its check (R180, R42). -/
def RxFrame.checkHolds : RxFrame → Bool
  | .byLength code tag body check => check == frameCheck code tag body
  | .malformed _ => false

/-- A sound request frame (R178). -/
def RxFrame.sound (code tag : Byte) (body : List Byte) : RxFrame :=
  .byLength code tag body (frameCheck code tag body)

/-- A malformed frame's bytes are what frame assembly leaves: at least one byte; with a length
field out of range, the two bytes of that field alone; with a length field in range, fewer bytes than it calls for (R179). -/
def shortBytes (bytes : List Byte) : Bool :=
  match bytes with
  | [] => false
  | [_] => true
  | [_, _] => true
  | a :: b :: _ => !lengthOutOfRange (u16 [a, b] 0) && bytes.length < u16 [a, b] 0 + 4

/-- The frame is one that frame assembly can hand over from an empty assembly (R178, R179). -/
def RxFrame.fits : RxFrame → Bool
  | .byLength _ _ body _ => body.length + 2 ≤ Config.greatestLength
  | .malformed bytes => shortBytes bytes

/-- The requests of the cab and depot ports (R202). -/
inductive Request where
  | beginLoad | loadStop | loadMember | loadProfile | loadClass | finishLoad | clearRoute
  | beginUpload | nextBatch | confirmBatch | rejectBatch | clearTamper
  | startRoute | endRoute | openStop | closeStop | readStop | skipSweep | readSweep
  | acknowledgeAlert | readAlert | setPass
  | readMember | readStrangers | queryMembers | clearEvents | setMask | readState
  deriving DecidableEq, Repr

/-- The request codes of R202. -/
def requestCode : Request → Byte
  | .beginLoad => 0x10 | .loadStop => 0x11 | .loadMember => 0x12 | .loadProfile => 0x13
  | .loadClass => 0x14 | .finishLoad => 0x15 | .clearRoute => 0x16 | .beginUpload => 0x17
  | .nextBatch => 0x18 | .confirmBatch => 0x19 | .rejectBatch => 0x1A | .clearTamper => 0x1B
  | .startRoute => 0x20 | .endRoute => 0x21 | .openStop => 0x22 | .closeStop => 0x23
  | .readStop => 0x24 | .skipSweep => 0x25 | .readSweep => 0x26 | .acknowledgeAlert => 0x27
  | .readAlert => 0x28 | .setPass => 0x29 | .readMember => 0x30 | .readStrangers => 0x31
  | .queryMembers => 0x32 | .clearEvents => 0x33 | .setMask => 0x34 | .readState => 0x35

/-- The TELEGRAM code (R202). -/
def telegramCode : Byte := 0x01

/-- The requests a port carries (R202, the table of 00_scope.md). -/
def portRequests : HostPort → List Request
  | .cab => [.startRoute, .endRoute, .openStop, .closeStop, .readStop, .skipSweep, .readSweep,
      .acknowledgeAlert, .readAlert, .setPass, .readMember, .readStrangers, .queryMembers,
      .clearEvents, .setMask, .readState]
  | .depot => [.beginLoad, .loadStop, .loadMember, .loadProfile, .loadClass, .finishLoad,
      .clearRoute, .beginUpload, .nextBatch, .confirmBatch, .rejectBatch, .clearTamper,
      .readMember, .readStrangers, .queryMembers, .clearEvents, .setMask, .readState]

/-- The request a code names on a port, or none: an unknown code there (R180). -/
def requestOf (p : HostPort) (code : Byte) : Option Request :=
  (portRequests p).find? (fun r => requestCode r == code)

end Sys2Proof
end

