-- ==== Sys2Proof/Machine/State.lean ====
section
/-! DEFINITION. Everything the DC48 holds, as plain data, block by block (the Block overview of 00_scope.md), and its
value after a cold start. Operations on it stand in Machine/Ops.lean and the block files. -/

namespace Sys2Proof.Machine

/-- A keyed table in canonical form: keys strictly rising; an absent key is an invalid way or an
unloaded index. -/
abbrev Table (α : Type) := List (Nat × α)

/-- The utility kinds (R1). -/
inductive Kind where
  | water | gas | heat | power
  deriving DecidableEq, Repr

/-- A meter key (R1). -/
structure Key where
  number : Word32
  kind : Kind
  deriving DecidableEq, Repr

/-- Counter widths (R5). -/
inductive Width where
  | half | full
  deriving DecidableEq, Repr

/-- Read states of a member (1.4). -/
inductive ReadState where
  | unread | read | carried | missed
  deriving DecidableEq, Repr

/-- Tamper states of a member (R89). -/
inductive TamperState where
  | clean | watch | flagged
  deriving DecidableEq, Repr

/-- A counter with the meter time it was reported at: a prior reading (R5) or a record's reading. -/
structure Reading where
  counter : Word32
  time : Word32
  deriving DecidableEq, Repr

/-- A member record (R4). -/
structure Member where
  key : Key
  stop : Nat
  width : Width
  profile : Nat
  prior : Option Reading
  readState : ReadState
  tamper : TamperState
  latched : ClassSet
  /-- Watch map: at most one entry for each class, its class and its count of clean hearings (R6, R88); held in the one
  canonical form of a keyed table. -/
  watch : Table Nat
  deferred : ClassSet
  record : Option Nat
  deriving DecidableEq, Repr

/-- The five counts the directory keeps (R17). -/
structure DirCounts where
  valid : Nat
  unread : Nat
  read : Nat
  carried : Nat
  missed : Nat
  deriving DecidableEq, Repr

/-- The meter directory: valid ways by position (R3), and its counts (R17). -/
structure Directory where
  ways : Table Member
  counts : DirCounts
  deriving DecidableEq, Repr

/-- Route states (R20). -/
inductive RouteState where
  | empty | loading | ready | running | returned | uploading | done
  deriving DecidableEq, Repr

/-- The route controller: route state (R20), route clock (R30), loading record (R22, R25). -/
structure RouteControl where
  state : RouteState
  clock : Word32
  clockRunning : Bool
  stopsLoaded : Nat
  profilesLoaded : ProfileSet
  classesLoaded : ClassSet
  deriving DecidableEq, Repr

/-- A profile (R63). -/
structure Profile where
  ceilShort : Word32
  ceilLong : Word32
  eshort : Word32
  elong : Word32
  window : Word16
  zone : Word16
  idleSpan : Word32
  deriving DecidableEq, Repr

/-- The fields of a TELEGRAM (R41). -/
structure Telegram where
  key : Key
  counter : Word32
  time : Word32
  magnet : Bool
  opened : Bool
  reverse : Bool
  batteryLow : Bool
  signal : Byte
  deriving DecidableEq, Repr

/-- An entry of the intake queue: a telegram with its arrival time (R44). -/
structure Queued where
  telegram : Telegram
  arrival : Word32
  deriving DecidableEq, Repr

/-- The telegram in evaluation with its void mark (R46, R47). -/
structure Evaluation where
  queued : Queued
  void : Bool
  deriving DecidableEq, Repr

/-- The intake engine (R44, R46). -/
structure Intake where
  queue : List Queued
  eval : Option Evaluation
  deriving DecidableEq, Repr

/-- Upload states of an item (R162). -/
inductive UploadState where
  | fresh | batched | confirmed
  deriving DecidableEq, Repr

/-- A reading record (R53). -/
structure Record where
  index : Nat
  key : Key
  counter : Word32
  time : Word32
  firstHeard : Word32
  leadStop : Option Nat
  hearings : Nat
  signal : Byte
  batteryLow : Bool
  indicators : IndicatorSet
  fired : ClassSet
  rate : Option Word32
  ceiling : Option Word32
  upload : UploadState
  batch : Option Nat
  deriving DecidableEq, Repr

/-- Class modes (R83). -/
inductive ClassMode where
  | off | report | retry | latch
  deriving DecidableEq, Repr

/-- Class timings and alert origins (R83, R91, R201). -/
inductive Timing where
  | prompt | deferred
  deriving DecidableEq, Repr

/-- A class record (R83). -/
structure ClassRecord where
  mask : IndicatorSet
  mode : ClassMode
  timing : Timing
  stall : Bool
  clean : Nat
  deriving DecidableEq, Repr

/-- An alert entry (R91). -/
structure Alert where
  key : Key
  stop : Nat
  classes : ClassSet
  indicators : IndicatorSet
  origin : Timing
  time : Word32
  deriving DecidableEq, Repr

/-- The tamper unit: class table, alert queue (head first), STALLED, PASS (R83, R96, R97, R100). -/
structure Tamper where
  classes : Table ClassRecord
  alerts : List Alert
  stalled : Bool
  pass : Bool
  deriving DecidableEq, Repr

/-- Close modes (R23, R113). -/
inductive CloseMode where
  | drop | carry | linger
  deriving DecidableEq, Repr

/-- Stop states (R108): PENDING, OPEN, LINGER, CLOSED. -/
inductive StopState where
  | pending | opened | lingering | closed
  deriving DecidableEq, Repr

/-- A stop record (R24, R108, R109). -/
structure Stop where
  number : Nat
  position : Nat
  mode : CloseMode
  lingerTime : Nat
  members : Nat
  readCount : Nat
  state : StopState
  slot : Option (Fin 4)
  openTime : Option Word32
  deriving DecidableEq, Repr

/-- A running linger or confirm timer: its remaining time in seconds, never 0 (R110, R163), and the model's own mark that its last
second has ended, so that it reaches 0 in its expiry command (R118, R167; log 4). -/
structure Timer where
  left : Nat
  due : Bool
  deriving DecidableEq, Repr

/-- A stop slot: the stop that holds it, and its linger timer when it runs (R110). -/
structure Slot where
  stop : Option Nat
  timer : Option Timer
  deriving DecidableEq, Repr

/-- A sweep list entry (R120). -/
structure SweepEntry where
  key : Key
  stop : Nat
  deriving DecidableEq, Repr

/-- The stop unit: stop records by number, slots, opening order (newest last), sweep list (head first)
(R110, R111, R120). -/
structure Stops where
  records : Table Stop
  slots : Vector Slot 4
  order : List Nat
  sweep : List SweepEntry
  deriving DecidableEq, Repr

/-- A stranger entry (R131). -/
structure Stranger where
  key : Key
  hearings : Nat
  firstHeard : Word32
  firstStop : Option Nat
  counter : Word32
  signal : Byte
  upload : UploadState
  deriving DecidableEq, Repr

/-- The three tree bits of a set (7.3). -/
structure Tree where
  b0 : Bool
  b1 : Bool
  b2 : Bool
  deriving DecidableEq, Repr

/-- The stranger table: valid ways by position, tree bits by set, valid count (R130, R136, R141). -/
structure Strangers where
  entries : Table Stranger
  trees : Vector Tree 64
  count : Nat
  deriving DecidableEq, Repr

/-- The selections of a QUERY MEMBERS (R145); `stop` absent is ALL. -/
structure Selection where
  readStates : BitVec 4
  tamperStates : BitVec 3
  kinds : BitVec 4
  histories : BitVec 2
  stop : Option Nat
  deriving DecidableEq, Repr

/-- A match entry (R148). -/
structure Match where
  position : Nat
  key : Key
  stop : Nat
  readState : ReadState
  tamper : TamperState
  deriving DecidableEq, Repr

/-- A scan context in flight (R144). -/
structure Scan where
  tag : Byte
  selection : Selection
  next : Nat
  found : List Match
  deriving DecidableEq, Repr

/-- An item of the upload order (R158). A miss item's upload state stands here, the others' in their
records (R162). -/
inductive UploadItem where
  | reading (index : Nat)
  | miss (key : Key) (state : UploadState)
  | stranger (position : Nat)
  deriving DecidableEq, Repr

/-- An outstanding batch (R163). -/
structure Batch where
  number : Nat
  items : List Nat
  timer : Timer
  deriving DecidableEq, Repr

/-- The upload engine: upload order, batch table in order of forming, batch counter (R158, R163, R164). -/
structure Upload where
  order : Option (List UploadItem)
  batches : List Batch
  counter : Nat
  deriving DecidableEq, Repr

/-- Response codes (10.3). -/
inductive ReplyCode where
  | ok | taken | full | badCheck | idle | badFrame | wrongState | stalled | busy | noSlot
  | notFound | duplicate | setFull | badValue | incomplete | stale | windowFull | nothing | empty
  | ended
  deriving DecidableEq, Repr

/-- What an INCOMPLETE answer names (R27). -/
inductive LoadGap where
  | noStop
  | missingStop (position : Nat) (key : Key) (stop : Nat)
  | missingProfile (position : Nat) (key : Key) (profile : Nat)
  deriving DecidableEq, Repr

/-- The contents of an upload item in a batch (R159 to R161). -/
inductive ItemContent where
  | reading (record : Record)
  | miss (key : Key) (stop : Nat) (tamper : TamperState) (latched : ClassSet)
  | stranger (position : Nat) (entry : Stranger)
  deriving DecidableEq, Repr

/-- An outstanding batch as READ STATE reports it (R177). -/
structure BatchReport where
  number : Nat
  items : Nat
  timer : Nat
  deriving DecidableEq, Repr

/-- The upload order's counts as READ STATE reports them (R177). -/
structure OrderReport where
  items : Nat
  fresh : Nat
  batched : Nat
  confirmed : Nat
  deriving DecidableEq, Repr

/-- Dock status (R184). -/
inductive DockStatus where
  | undocked | docked
  deriving DecidableEq, Repr

/-- The figures of READ STATE (R193). -/
structure StateReport where
  routeState : RouteState
  clock : Word32
  stopsLoaded : Nat
  profilesLoaded : ProfileSet
  classesLoaded : ClassSet
  counts : DirCounts
  intakeCount : Nat
  evaluating : Bool
  records : Nat
  sweepCount : Nat
  slotStops : List (Option Nat)
  leadStop : Option Nat
  stopsPending : Nat
  stopsOpen : Nat
  stopsLinger : Nat
  stopsClosed : Nat
  alertCount : Nat
  stalled : Bool
  pass : Bool
  strangerCount : Nat
  scanInFlight : Bool
  order : Option OrderReport
  batches : List BatchReport
  batchCounter : Nat
  dock : DockStatus
  view : EventSet
  mask : EventSet
  alertLine : Bool
  deriving DecidableEq, Repr

/-- A stranger entry as READ STRANGERS gives it: position, tree bits of its set, entry (R139). -/
structure StrangerReport where
  position : Nat
  tree : Tree
  entry : Stranger
  deriving DecidableEq, Repr

/-- The body of a response; a refusal whose entry lists no field has the body `none` (log 17). -/
inductive Reply where
  | none
  /-- LOAD MEMBER: the position assigned (R9). -/
  | position (position : Nat)
  /-- LOAD STOP: the route position assigned (R24). -/
  | routePosition (position : Nat)
  /-- LOAD CLASS: the clean count as stored (R84). -/
  | cleanCount (count : Nat)
  /-- FINISH LOAD, INCOMPLETE (R27). -/
  | incomplete (gap : LoadGap)
  /-- BEGIN UPLOAD: the route state after the request (R35). -/
  | routeState (state : RouteState)
  /-- NEXT BATCH, OK: number and items, each with its item number (R166, R203). -/
  | batch (number : Nat) (items : List (Nat × ItemContent))
  /-- NEXT BATCH, WINDOW_FULL: numbers and remaining confirm times (R165). -/
  | windowFull (batches : List (Nat × Nat))
  /-- NEXT BATCH, NOTHING: BATCHED items; numbers and remaining confirm times (R165). -/
  | nothing (batched : Nat) (batches : List (Nat × Nat))
  /-- CONFIRM BATCH, OK (R168). -/
  | confirmed (number items total : Nat) (done : Bool) (state : RouteState)
  /-- REJECT BATCH, OK (R169). -/
  | rejected (number items : Nat)
  /-- STALE: the number echoed (R170). -/
  | stale (number : Nat)
  /-- CLEAR TAMPER, OK (R102). -/
  | tamperFields (tamper : TamperState) (latched : ClassSet) (watch : Table Nat) (deferred : ClassSet)
  /-- OPEN STOP, OK (R112). -/
  | opened (slot : Fin 4) (openTime : Word32)
  /-- CLOSE STOP, OK (R113). -/
  | closed (state : StopState) (carried missed sweepCount : Nat)
  /-- READ STOP, OK: the record, the remaining linger time, whether the stop leads (R125). -/
  | stop (record : Stop) (remaining : Option Nat) (lead : Bool)
  /-- SKIP SWEEP, OK (R122). -/
  | skipped (entry : SweepEntry) (sweepCount : Nat)
  /-- READ SWEEP, OK (R123). -/
  | sweep (count : Nat) (entries : List SweepEntry)
  /-- ACKNOWLEDGE ALERT, OK or EMPTY (R98). -/
  | acknowledged (entry : Option Alert) (stalled : Bool) (count : Nat)
  /-- READ ALERT, OK (R101). -/
  | alerts (count : Nat) (stalled pass : Bool) (entries : List Alert)
  /-- SET PASS, OK (R100). -/
  | pass (pass stalled : Bool)
  /-- READ MEMBER, OK (R16). -/
  | member (position : Nat) (record : Member)
  /-- READ STRANGERS, OK (R139). -/
  | strangers (count : Nat) (entries : List StrangerReport) (next : Nat)
  /-- QUERY MEMBERS, OK (R147, R149). -/
  | found (entries : List Match) (next : Nat)
  /-- CLEAR EVENTS and SET MASK, OK: the port's view and mask (R189, R190). -/
  | events (view mask : EventSet)
  /-- READ STATE, OK (R193). -/
  | state (report : StateReport)
  deriving DecidableEq, Repr

/-- A response in an output queue. `scan` marks the response of the port's own scan, which waits in
the kept place (R182). -/
structure Response where
  code : ReplyCode
  tag : Byte
  body : Reply
  scan : Bool
  deriving DecidableEq, Repr

/-- The frame assembly of a port (R179, R183). -/
inductive Assembly where
  /-- Bytes of the frame received so far; none between frames. -/
  | collecting (bytes : List Byte)
  /-- Discarding after an out-of-range length; the two length bytes received (R179). -/
  | badLength (bytes : List Byte)
  /-- Discarding in an overrun (R183). -/
  | overrun
  deriving DecidableEq, Repr

/-- One serial port's receive and transmit side (R179, R182, R183). `sent` holds the bytes of the
last frame sent whole (log 18). -/
structure Link where
  rx : Assembly
  held : Option RxFrame
  out : List Response
  sent : List Byte
  deriving DecidableEq, Repr

/-- A port with an event view: local events, mask, scan context, level of its reset line
(R144, R186, R190, R198, R199). -/
structure PortState where
  link : Link
  locals : EventSet
  mask : EventSet
  scan : Option Scan
  resetHeld : Bool
  deriving DecidableEq, Repr

/-- The port controllers (10_ports_events_and_restarts.md). -/
structure Ports where
  radio : Link
  cab : PortState
  depot : PortState
  shared : EventSet
  dockLine : Bool
  dock : DockStatus
  deriving DecidableEq, Repr

/-- The retention marker (R194). -/
inductive Marker where
  | valid | invalid
  deriving DecidableEq, Repr

/-- The two ways the part starts (R194). -/
inductive Start where
  | cold | warm
  deriving DecidableEq, Repr

/-- The retention controller and the supply: marker (R194), main supply (R196), RESET line level and the start held
back until its release (R194, R197). -/
structure Power where
  powered : Bool
  marker : Marker
  resetHeld : Bool
  due : Option Start
  deriving DecidableEq, Repr

/-- The whole part: one field for each owner of the Block overview (00_scope.md). -/
structure Part where
  route : RouteControl
  dir : Directory
  profiles : Table Profile
  tamper : Tamper
  stops : Stops
  intake : Intake
  store : List Record
  strangers : Strangers
  upload : Upload
  ports : Ports
  power : Power
  /-- The model's own counter of open choices, read by `Config.endedFirst` (log 12). -/
  choices : Nat
  deriving DecidableEq, Repr

/-- The part and the commands that wait for it, first in, first out. -/
structure State where
  part : Part
  pending : List Instr
  deriving DecidableEq, Repr

/-- No event of the DC48 stops it: every request is answered and every other event has its effect or
none, so there is no fault to name. -/
inductive Fault where
  deriving DecidableEq, Repr

/-- Why a command could have no meaning. -/
inductive Refusal where
  /-- Raised by `exec` alone, for a row not modelled yet; safe (nothing is claimed of the row). No row of this
  model is left to it. -/
  | notModelled (mnemonic : String)
  deriving DecidableEq, Repr

/-- A port that has received and sent nothing. -/
def Link.quiet : Link := ⟨.collecting [], none, [], []⟩

/-- A cab or depot port after a cold start, its reset line at the given level. -/
def PortState.quiet (resetHeld : Bool) : PortState := ⟨.quiet, 0, 0, none, resetHeld⟩

/-- The part after a cold start (R195, and the cold-start column of each block's table), with the
input lines at the levels given: the two port reset lines, the dock line, the RESET line. -/
def Part.cold (cabReset depotReset dockLine resetHeld : Bool) (choices : Nat) : Part where
  route := ⟨.empty, 0, false, 0, 0, 0⟩
  dir := ⟨[], ⟨0, 0, 0, 0, 0⟩⟩
  profiles := []
  tamper := ⟨[], [], false, false⟩
  stops := ⟨[], Vector.replicate 4 ⟨none, none⟩, [], []⟩
  intake := ⟨[], none⟩
  store := []
  strangers := ⟨[], Vector.replicate 64 ⟨false, false, false⟩, 0⟩
  upload := ⟨none, [], 0⟩
  ports :=
    { radio := .quiet
      cab := .quiet cabReset
      depot := .quiet depotReset
      shared := 0
      dockLine := dockLine
      dock := if dockLine then .docked else .undocked }
  power := ⟨true, .valid, resetHeld, none⟩
  choices := choices

/-- The machine right after reset: a cold start has ended, every input line is not asserted (log 7), no
command waits. -/
def State.reset : State := ⟨.cold false false false false 0, []⟩

end Sys2Proof.Machine
end

