-- ==== Sys2Proof/Machine/Flags.lean ====
section
/-! DEFINITION. The flags of the part: indicators and events at their bit positions (R201), class sets, the setting and
clearing of events, the event views and the alert lines (R186 to R191). -/

namespace Sys2Proof.Machine

/-- A set holds the value at bit `n`. -/
def inSet {w : Nat} (s : BitVec w) (n : Nat) : Bool := s.getLsbD n

/-- Two sets share a value. -/
def meets {w : Nat} (a b : BitVec w) : Bool := a &&& b != 0

/-- A set without the values of another. -/
def without {w : Nat} (a b : BitVec w) : BitVec w := a &&& ~~~b

/-! Indicators (R67, R201) -/

def indNoHistory : IndicatorSet := 0x001
def indWrap : IndicatorSet := 0x002
def indBackstep : IndicatorSet := 0x004
def indClock : IndicatorSet := 0x008
def indNoTime : IndicatorSet := 0x010
def indOverrange : IndicatorSet := 0x020
def indHighRate : IndicatorSet := 0x040
def indStill : IndicatorSet := 0x080
def indMagnet : IndicatorSet := 0x100
def indOpened : IndicatorSet := 0x200
def indReverse : IndicatorSet := 0x400
def indClone : IndicatorSet := 0x800

/-- An indicator, when a condition holds. -/
def raiseIf (c : Bool) (i : IndicatorSet) : IndicatorSet := if c then i else 0

/-! Events (R186, R201) -/

def evAlertQueued : EventSet := 0x001
def evAlertOverflow : EventSet := 0x002
def evStallBegan : EventSet := 0x004
def evSweepOverflow : EventSet := 0x008
def evIntakeFull : EventSet := 0x010
def evRouteChanged : EventSet := 0x020
def evBatchReturned : EventSet := 0x040
def evStrangerEvicted : EventSet := 0x080
def evLingerEnded : EventSet := 0x100
def evLinkFault : EventSet := 0x200
def evDocked : EventSet := 0x400

/-- The shared events (R186). -/
def sharedEvents : EventSet := 0x0FF

/-- The local events of a port (R186). -/
def localEvents : HostPort → EventSet
  | .cab => evLingerEnded ||| evLinkFault
  | .depot => evLinkFault ||| evDocked

/-- The events of a port's view (R186). -/
def viewEvents (p : HostPort) : EventSet := sharedEvents ||| localEvents p

/-! Class sets -/

/-- The set of the classes 0 to 3 that a test accepts. -/
def classesWhere (test : Nat → Bool) : ClassSet :=
  (if test 0 then 1 else 0) ||| (if test 1 then 2 else 0) |||
    (if test 2 then 4 else 0) ||| (if test 3 then 8 else 0)

/-! Ports and their events -/

/-- The receive line of a port with an event view. -/
def portLine : HostPort → Line
  | .cab => .cab
  | .depot => .depot

/-- A cab or depot port's state. -/
def Part.port (m : Part) : HostPort → PortState
  | .cab => m.ports.cab
  | .depot => m.ports.depot

/-- Changes the cab or the depot port. -/
def Part.onPort (p : HostPort) (f : PortState → PortState) (m : Part) : Part :=
  match p with
  | .cab => { m with ports := { m.ports with cab := f m.ports.cab } }
  | .depot => { m with ports := { m.ports with depot := f m.ports.depot } }

/-- Sets shared events, in both views at once (R186, R187). -/
def Part.setShared (e : EventSet) (m : Part) : Part :=
  { m with ports := { m.ports with shared := m.ports.shared ||| e } }

/-- Sets local events of a port (R186, R187). -/
def Part.setLocal (p : HostPort) (e : EventSet) (m : Part) : Part :=
  m.onPort p (fun q => { q with locals := q.locals ||| e })

/-- Clears events named by a port: shared events from both views, local events of that port (R189). -/
def Part.clearEvents (p : HostPort) (e : EventSet) (m : Part) : Part :=
  { m with ports := { m.ports with shared := without m.ports.shared e } }.onPort p
    (fun q => { q with locals := without q.locals e })

/-- A port's event view (R186). -/
def Part.view (m : Part) (p : HostPort) : EventSet := m.ports.shared ||| (m.port p).locals

/-- A port's alert line is asserted exactly when its view and mask share an event (R191). The pin is active low
(log 19). -/
def Part.alertLine (m : Part) (p : HostPort) : Bool := meets (m.view p) (m.port p).mask

end Sys2Proof.Machine
end

