-- ==== Sys2Proof/Machine/Ops.lean ====
section
/-! DEFINITION. The named operations the meanings are made of: tables, keys, ports and output queues, route state. -/

namespace Sys2Proof.Machine

/-! Tables -/

/-- The entry at a key, when there is one. -/
def Table.find {α : Type} (t : Table α) (k : Nat) : Option α :=
  (List.find? (fun e => e.1 == k) t).map Prod.snd

/-- The table with the entry at a key written, keys kept rising. -/
def Table.put {α : Type} (k : Nat) (v : α) : Table α → Table α
  | [] => [(k, v)]
  | (j, w) :: rest =>
    if k < j then (k, v) :: (j, w) :: rest
    else if k = j then (k, v) :: rest
    else (j, w) :: Table.put k v rest

/-- The table with the entry at a key changed, where there is one. -/
def Table.modify {α : Type} (k : Nat) (f : α → α) (t : Table α) : Table α :=
  List.map (fun e => if e.1 = k then (e.1, f e.2) else e) t

/-- The table with every entry changed. -/
def Table.mapValues {α : Type} (f : α → α) (t : Table α) : Table α :=
  List.map (fun e => (e.1, f e.2)) t

/-- The canonical form: keys strictly rising. -/
abbrev Table.Canonical {α : Type} (t : Table α) : Prop := (List.map Prod.fst t).Pairwise (· < ·)

/-! Keys -/

/-- Kind numbers (R1, R201). -/
def kindCode : Kind → Nat
  | .water => 1
  | .gas => 2
  | .heat => 3
  | .power => 4

/-- The kind a code names, or none (R1). -/
def kindOf (n : Nat) : Option Kind :=
  match n with
  | 1 => some .water
  | 2 => some .gas
  | 3 => some .heat
  | 4 => some .power
  | _ => none

/-- Key order: ascending meter number, then ascending kind number (R1). -/
def Key.before (a b : Key) : Bool :=
  a.number < b.number || (a.number == b.number && decide (kindCode a.kind < kindCode b.kind))

/-- The list with an element placed before the first element it does not follow. -/
def placeBy {α : Type} (before : α → α → Bool) (x : α) : List α → List α
  | [] => [x]
  | y :: rest => if before y x then y :: placeBy before x rest else x :: y :: rest

/-- The list in the order given. -/
def orderBy {α : Type} (before : α → α → Bool) : List α → List α
  | [] => []
  | x :: rest => placeBy before x (orderBy before rest)

/-- Valid directory places in key order (R1). -/
def inKeyOrder (l : List (Nat × Member)) : List (Nat × Member) :=
  orderBy (fun a b => a.2.key.before b.2.key) l

/-! Line conditions -/

/-- The part runs: supplied, and the RESET line not held (R196, R197). -/
def Part.alive (m : Part) : Bool := m.power.powered && !m.power.resetHeld

/-- A receive line's bytes are taken: the part runs, the port's reset line is not held (R198, R199), and for the depot
the dock status is DOCKED (R184). -/
def Part.listening (m : Part) : Line → Bool
  | .radio => m.alive
  | .cab => m.alive && !m.ports.cab.resetHeld
  | .depot => m.alive && !m.ports.depot.resetHeld && m.ports.dock == .docked

/-! Links and responses -/

/-- A port's receive and transmit side. -/
def Part.link (m : Part) : Line → Link
  | .radio => m.ports.radio
  | .cab => m.ports.cab.link
  | .depot => m.ports.depot.link

/-- Changes one port's receive and transmit side. -/
def Part.onLink (l : Line) (f : Link → Link) (m : Part) : Part :=
  match l with
  | .radio => { m with ports := { m.ports with radio := f m.ports.radio } }
  | .cab => m.onPort .cab (fun q => { q with link := f q.link })
  | .depot => m.onPort .depot (fun q => { q with link := f q.link })

/-- A response joins the tail of a port's output queue (R182). -/
def Part.send (l : Line) (r : Response) (m : Part) : Part :=
  m.onLink l (fun k => { k with out := k.out ++ [r] })

/-- Answers a request on a cab or depot port (R180). -/
def Part.answer (p : HostPort) (tag : Byte) (code : ReplyCode) (body : Reply) (m : Part) : Part :=
  m.send (portLine p) ⟨code, tag, body, false⟩

/-- Refuses a request with a code and an empty body (log 17). -/
def Part.refuse (p : HostPort) (tag : Byte) (code : ReplyCode) (m : Part) : Part :=
  m.answer p tag code .none

/-- Answers a telegram with its one code (R42). -/
def Part.answerRadio (tag : Byte) (code : ReplyCode) (m : Part) : Part :=
  m.send .radio ⟨code, tag, .none, false⟩

/-- Responses to requests that wait in an output queue (R182); on the radio port, every answer. -/
def Link.waiting (k : Link) : Nat := k.out.countP (fun r => !r.scan)

/-- A scan response waits in the kept place (R146, R182). -/
def Link.scanWaits (k : Link) : Bool := k.out.any (fun r => r.scan)

/-- A complete frame can arrive: fewer than 8 responses to requests wait, or on the radio port fewer
than 4 answers (R182, R183). -/
def Part.hasRoom (m : Part) (l : Line) : Bool :=
  match l with
  | .radio => (m.link l).waiting < Config.answerPlaces
  | _ => (m.link l).waiting < Config.requestPlaces

/-- The receive side of a port stands between frames with none held. -/
def Part.betweenFrames (m : Part) (l : Line) : Bool :=
  (m.link l).rx == .collecting [] && (m.link l).held == none

/-- A frame that ends now on this line is judged at once: the line is taken, assembly stands between
frames, and the output queue has room. -/
def Part.accepts (m : Part) (l : Line) : Bool :=
  m.listening l && m.betweenFrames l && m.hasRoom l

/-- Frame assembly, held frame and output queue emptied; a response partly sent is cut off (R184, R195,
R197 to R199). -/
def Link.emptied (k : Link) : Link := { k with rx := .collecting [], held := none, out := [] }

/-! Timers -/

/-- A timer starts with this remaining time (R116, R166). -/
def Timer.start (seconds : Nat) : Timer := ⟨seconds, false⟩

/-- A running timer at the end of a second (R118, R167): its remaining time falls by 1. The end of its last second marks it due, and it
reaches 0 in its expiry command (log 4). -/
def Timer.tick (t : Timer) : Timer := if 1 < t.left then { t with left := t.left - 1 } else { t with due := true }

/-! Route state -/

/-- Moves the route state and sets ROUTE_CHANGED in both views (R20, R21). -/
def Part.moveRoute (r : RouteState) (m : Part) : Part :=
  { m with route := { m.route with state := r } }.setShared evRouteChanged

/-- STALLED holds the cab's stop and route requests (R99). -/
def Part.held (m : Part) : Bool := m.tamper.stalled && !m.tamper.pass

/-! Commands -/

/-- A command acts on the part and goes on; the queue of waiting commands is not its to change. -/
def act (f : Part → Part) (s : State) : Host.Outcome State Fault Refusal :=
  .next { s with part := f s.part }

/-- An event the part takes while it runs; without supply, or while the RESET line is held, no frame, expiry or completion
is taken (R196, R197; log 9). -/
def whileAlive (f : Part → Part) (m : Part) : Part := if m.alive then f m else m

end Sys2Proof.Machine
end

