-- ==== Sys2Proof/Machine/Operands.lean ====
section
/-! DEFINITION. The operand forms: the codes of named values (R201) and the request bodies (R202). A body parser answers none
exactly when its request's entry gives BAD_VALUE for the body: wrong length, or a field out of range. -/

namespace Sys2Proof.Machine

/-! Codes of named values (R201) -/

def widthOf (n : Nat) : Option Width :=
  match n with
  | 0 => some .half
  | 1 => some .full
  | _ => none

/-- Presence, DISCARD option, override presence, SET PASS value, stall: 0 or 1. -/
def flagOf (n : Nat) : Option Bool :=
  match n with
  | 0 => some false
  | 1 => some true
  | _ => none

def closeModeOf (n : Nat) : Option CloseMode :=
  match n with
  | 0 => some .drop
  | 1 => some .carry
  | 2 => some .linger
  | _ => none

def classModeOf (n : Nat) : Option ClassMode :=
  match n with
  | 0 => some .off
  | 1 => some .report
  | 2 => some .retry
  | 3 => some .latch
  | _ => none

def timingOf (n : Nat) : Option Timing :=
  match n with
  | 0 => some .prompt
  | 1 => some .deferred
  | _ => none

/-- A set-valued field: refused when a bit above its last position is set (R201). -/
def setOf (w n : Nat) : Option (BitVec w) :=
  if n < 2 ^ w then some (BitVec.ofNat w n) else none

/-- A stop number, 0 to 511. -/
def stopNumberOf (n : Nat) : Option Nat := if n < Config.stopNumbers then some n else none

/-- The meter key at offset i: number (4), kind (1). -/
def keyOf (body : List Byte) (i : Nat) : Option Key :=
  (kindOf (u8 body (i + 4))).map (fun k => ⟨u32 body i, k⟩)

/-! Request bodies (R202) -/

/-- An empty body. -/
def emptyBody (body : List Byte) : Bool := body.length == 0

/-- The fields of a TELEGRAM: 15 bytes, kind 1 to 4; bits 4 to 7 of the flag byte are ignored (R41, R42). -/
def telegramOf (body : List Byte) : Option Telegram :=
  if body.length = 15 then
    (keyOf body 0).map (fun key =>
      { key := key
        counter := u32 body 5
        time := u32 body 9
        magnet := (byteAt body 13).getLsbD 0
        opened := (byteAt body 13).getLsbD 1
        reverse := (byteAt body 13).getLsbD 2
        batteryLow := (byteAt body 13).getLsbD 3
        signal := byteAt body 14 })
  else none

/-- LOAD STOP: stop number (2), default close mode (1), linger time (1) (R23). -/
structure LoadStopFields where
  stop : Nat
  mode : CloseMode
  lingerTime : Nat
  deriving DecidableEq, Repr

def loadStopOf (body : List Byte) : Option LoadStopFields :=
  if body.length = 4 then do
    let stop ← stopNumberOf (u16 body 0)
    let mode ← closeModeOf (u8 body 2)
    pure ⟨stop, mode, u8 body 3⟩
  else none

/-- LOAD MEMBER: number (4), kind (1), stop (2), width (1), profile (1), presence (1) and, when present, prior
counter (4) and prior meter time (4) (R8). -/
structure LoadMemberFields where
  key : Key
  stop : Nat
  width : Width
  profile : Nat
  prior : Option Reading
  deriving DecidableEq, Repr

def loadMemberOf (body : List Byte) : Option LoadMemberFields :=
  if body.length = 10 ∨ body.length = 18 then do
    let key ← keyOf body 0
    let stop ← stopNumberOf (u16 body 5)
    let width ← widthOf (u8 body 7)
    let present ← flagOf (u8 body 9)
    if u8 body 8 < 16 ∧ body.length = (if present then 18 else 10) then
      pure ⟨key, stop, width, u8 body 8,
        if present then some ⟨u32 body 10, u32 body 14⟩ else none⟩
    else none
  else none

/-- LOAD PROFILE: index (1), then the fields of R63; refused when Eshort is 0 or not below Elong (R64). -/
def loadProfileOf (body : List Byte) : Option (Nat × Profile) :=
  if body.length = 25 ∧ u8 body 0 < 16 ∧ u32 body 9 ≠ 0 ∧ u32 body 9 < u32 body 13 then
    some (u8 body 0,
      { ceilShort := u32 body 1
        ceilLong := u32 body 5
        eshort := u32 body 9
        elong := u32 body 13
        window := BitVec.ofNat 16 (u16 body 17)
        zone := BitVec.ofNat 16 (u16 body 19)
        idleSpan := u32 body 21 })
  else none

/-- A clean count as stored: 0 becomes 1, above 15 becomes 15 (R84). -/
def cleanCountOf (n : Nat) : Nat := if n = 0 then 1 else if 15 < n then 15 else n

/-- LOAD CLASS: class (1), mask (2), mode (1), timing (1), stall (1), clean count (1) (R84). -/
def loadClassOf (body : List Byte) : Option (Nat × ClassRecord) :=
  if body.length = 7 ∧ u8 body 0 < 4 then do
    let mask ← setOf 12 (u16 body 1)
    let mode ← classModeOf (u8 body 3)
    let timing ← timingOf (u8 body 4)
    let stall ← flagOf (u8 body 5)
    pure (u8 body 0, ⟨mask, mode, timing, stall, cleanCountOf (u8 body 6)⟩)
  else none

/-- CLEAR ROUTE: the DISCARD option (R37, R202). -/
def discardOf (body : List Byte) : Option Bool :=
  if body.length = 1 then flagOf (u8 body 0) else none

/-- CONFIRM BATCH and REJECT BATCH: a batch number, not 0 (R168, R169). -/
def batchNumberOf (body : List Byte) : Option Nat :=
  if body.length = 2 ∧ u16 body 0 ≠ 0 then some (u16 body 0) else none

/-- CLEAR TAMPER: number (4), kind (1), class set (1) (R102). -/
def clearTamperOf (body : List Byte) : Option (Key × ClassSet) :=
  if body.length = 6 then do
    let key ← keyOf body 0
    let classes ← setOf 4 (u8 body 5)
    pure (key, classes)
  else none

/-- OPEN STOP and READ STOP: a stop number (R112, R125). -/
def stopOf (body : List Byte) : Option Nat :=
  if body.length = 2 then stopNumberOf (u16 body 0) else none

/-- CLOSE STOP: stop number (2), override presence (1), override mode (1), judged when present (R113). -/
def closeStopOf (body : List Byte) : Option (Nat × Option CloseMode) :=
  if body.length = 4 then do
    let stop ← stopNumberOf (u16 body 0)
    let present ← flagOf (u8 body 2)
    if present then do
      let mode ← closeModeOf (u8 body 3)
      pure (stop, some mode)
    else pure (stop, none)
  else none

/-- READ ALERT: a start place, 0 to 31 (R101). -/
def startPlaceOf (body : List Byte) : Option Nat :=
  if body.length = 1 ∧ u8 body 0 < Config.alertPlaces then some (u8 body 0) else none

/-- SET PASS: on or off (R100). -/
def passOf (body : List Byte) : Option Bool :=
  if body.length = 1 then flagOf (u8 body 0) else none

/-- READ MEMBER: number (4), kind (1) (R16). -/
def readMemberOf (body : List Byte) : Option Key :=
  if body.length = 5 then keyOf body 0 else none

/-- READ STRANGERS: a start position, 0 to 255 (R139). -/
def startPositionOf (body : List Byte) : Option Nat :=
  if body.length = 2 ∧ u16 body 0 < Config.strangerPlaces then some (u16 body 0) else none

/-- QUERY MEMBERS: four sets (1 each), stop selection (1), stop number (2, judged when one number is selected), start
cursor (2) (R145, R146). -/
def queryOf (body : List Byte) : Option (Selection × Nat) :=
  if body.length = 9 ∧ u16 body 7 < Config.directoryPlaces then do
    let readStates ← setOf 4 (u8 body 0)
    let tamperStates ← setOf 3 (u8 body 1)
    let kinds ← setOf 4 (u8 body 2)
    let histories ← setOf 2 (u8 body 3)
    let one ← flagOf (u8 body 4)
    if one then do
      let stop ← stopNumberOf (u16 body 5)
      pure (⟨readStates, tamperStates, kinds, histories, some stop⟩, u16 body 7)
    else pure (⟨readStates, tamperStates, kinds, histories, none⟩, u16 body 7)
  else none

/-- CLEAR EVENTS and SET MASK: a set of events of the asking port's view (R189, R190). -/
def eventsOf (p : HostPort) (body : List Byte) : Option EventSet :=
  if body.length = 2 then do
    let e ← setOf 11 (u16 body 0)
    if without e (viewEvents p) = 0 then pure e else none
  else none

end Sys2Proof.Machine
end

