-- ==== Sys2Proof/Machine/Layout.lean ====
section
/-! DEFINITION. The bytes of responses: value codes (R201), field widths, absence and lists (R200), response codes (R202) and
upload items (R203). Layouts that R200 leaves to be read from an entry's list of fields are named in log 16. -/

namespace Sys2Proof.Machine

/-! Value codes (R201) -/

def flagCode (b : Bool) : Nat := if b then 1 else 0

def widthCode : Width → Nat
  | .half => 0
  | .full => 1

def readStateCode : ReadState → Nat
  | .unread => 0
  | .read => 1
  | .carried => 2
  | .missed => 3

def tamperStateCode : TamperState → Nat
  | .clean => 0
  | .watch => 1
  | .flagged => 2

def stopStateCode : StopState → Nat
  | .pending => 0
  | .opened => 1
  | .lingering => 2
  | .closed => 3

def closeModeCode : CloseMode → Nat
  | .drop => 0
  | .carry => 1
  | .linger => 2

def timingCode : Timing → Nat
  | .prompt => 0
  | .deferred => 1

def routeStateCode : RouteState → Nat
  | .empty => 0
  | .loading => 1
  | .ready => 2
  | .running => 3
  | .returned => 4
  | .uploading => 5
  | .done => 6

def uploadStateCode : UploadState → Nat
  | .fresh => 0
  | .batched => 1
  | .confirmed => 2

def dockCode : DockStatus → Nat
  | .undocked => 0
  | .docked => 1

/-- Response codes (R202). -/
def replyCode : ReplyCode → Byte
  | .ok => 0x80 | .taken => 0x81 | .full => 0x82 | .badCheck => 0x83 | .idle => 0x84
  | .badFrame => 0x85 | .wrongState => 0x86 | .stalled => 0x87 | .busy => 0x88 | .noSlot => 0x89
  | .notFound => 0x8A | .duplicate => 0x8B | .setFull => 0x8C | .badValue => 0x8D
  | .incomplete => 0x8E | .stale => 0x8F | .windowFull => 0x90 | .nothing => 0x91 | .empty => 0x92
  | .ended => 0x93

/-! Fields (R200) -/

/-- A meter key: number (4), kind (1). -/
def keyBytes (k : Key) : List Byte := be32 k.number ++ be8 (kindCode k.kind)

/-- An optional stop number or index: FFFFh when absent. -/
def optional16 (n : Option Nat) : List Byte := be16 (n.getD 0xFFFF)

/-- A set of at most 8 values in one byte. -/
def set8 {w : Nat} (s : BitVec w) : List Byte := be8 s.toNat

/-- A set of at most 16 values in two bytes. -/
def set16 {w : Nat} (s : BitVec w) : List Byte := be16 s.toNat

/-- A list of entries, preceded by a one-byte count. -/
def listBytes {α : Type} (f : α → List Byte) (l : List α) : List Byte := be8 l.length ++ l.flatMap f

/-- An optional four-byte field with its presence byte. -/
def optional32 (w : Option Word32) : List Byte :=
  match w with
  | some v => be8 1 ++ be32 v
  | none => be8 0 ++ be32 0

/-- An optional prior reading with its presence byte. -/
def priorBytes (r : Option Reading) : List Byte :=
  match r with
  | some v => be8 1 ++ be32 v.counter ++ be32 v.time
  | none => be8 0 ++ be32 0 ++ be32 0

/-- The rate and ceiling pair, which share one presence byte. -/
def rateBytes (rate ceiling : Option Word32) : List Byte :=
  be8 (flagCode rate.isSome) ++ be32 (rate.getD 0) ++ be32 (ceiling.getD 0)

/-- A watch map as a list, classes rising: R16's order, and in CLEAR TAMPER's answer the model's choice (log 16). -/
def watchBytes (w : Table Nat) : List Byte := listBytes (fun e => be8 e.1 ++ be8 e.2) w

/-- An alert entry, its fields in the order of R91. -/
def alertBytes (a : Alert) : List Byte :=
  keyBytes a.key ++ be16 a.stop ++ set8 a.classes ++ set16 a.indicators ++
    be8 (timingCode a.origin) ++ be32 a.time

def sweepBytes (e : SweepEntry) : List Byte := keyBytes e.key ++ be16 e.stop

/-- Number and remaining confirm time of an outstanding batch. -/
def batchTimeBytes (b : Nat × Nat) : List Byte := be16 b.1 ++ be8 b.2

/-! Bodies -/

/-- The fields of an upload item after its number: group code, then its group's fields (R203). -/
def itemBytes : ItemContent → List Byte
  | .reading r =>
    be8 1 ++ be16 r.index ++ keyBytes r.key ++ be32 r.counter ++ be32 r.time ++ be32 r.firstHeard ++
      optional16 r.leadStop ++ be8 r.hearings ++ [r.signal] ++ be8 (flagCode r.batteryLow) ++
      set16 r.indicators ++ set8 r.fired ++ rateBytes r.rate r.ceiling ++
      be8 (uploadStateCode r.upload) ++ be16 (r.batch.getD 0)
  | .miss key stop tamper latched =>
    be8 2 ++ keyBytes key ++ be16 stop ++ be8 (tamperStateCode tamper) ++ set8 latched
  | .stranger position e =>
    be8 3 ++ be8 position ++ keyBytes e.key ++ be8 e.hearings ++ be32 e.firstHeard ++
      optional16 e.firstStop ++ be32 e.counter ++ [e.signal]

/-- READ MEMBER (R16): position, key, stop, width, profile, prior reading, read state, tamper state, latched set,
deferred-pending set, watch map, record index. -/
def memberBytes (position : Nat) (r : Member) : List Byte :=
  be16 position ++ keyBytes r.key ++ be16 r.stop ++ be8 (widthCode r.width) ++ be8 r.profile ++
    priorBytes r.prior ++ be8 (readStateCode r.readState) ++ be8 (tamperStateCode r.tamper) ++
    set8 r.latched ++ set8 r.deferred ++ watchBytes r.watch ++ optional16 r.record

/-- READ STOP (R125). -/
def stopBytes (r : Stop) (remaining : Option Nat) (lead : Bool) : List Byte :=
  be16 r.number ++ be16 r.position ++ be8 (closeModeCode r.mode) ++ be8 r.lingerTime ++
    be16 r.members ++ be16 r.readCount ++ be8 (stopStateCode r.state) ++
    be8 ((r.slot.map Fin.val).getD 0xFF) ++ optional32 r.openTime ++ be8 (remaining.getD 0) ++
    be8 (flagCode lead)

/-- An entry of READ STRANGERS (R139): position, tree bits, the fields of R131. -/
def strangerBytes (r : StrangerReport) : List Byte :=
  be8 r.position ++ be8 (flagCode r.tree.b0) ++ be8 (flagCode r.tree.b1) ++
    be8 (flagCode r.tree.b2) ++ keyBytes r.entry.key ++ be8 r.entry.hearings ++
    be32 r.entry.firstHeard ++ optional16 r.entry.firstStop ++ be32 r.entry.counter ++
    [r.entry.signal] ++ be8 (uploadStateCode r.entry.upload)

def matchBytes (e : Match) : List Byte :=
  be16 e.position ++ keyBytes e.key ++ be16 e.stop ++ be8 (readStateCode e.readState) ++
    be8 (tamperStateCode e.tamper)

def orderBytes (o : Option OrderReport) : List Byte :=
  match o with
  | some r => be8 1 ++ be16 r.items ++ be16 r.fresh ++ be16 r.batched ++ be16 r.confirmed
  | none => be8 0 ++ be16 0 ++ be16 0 ++ be16 0 ++ be16 0

/-- READ STATE, its figures in the order of R193's table; the item figure of a batch in one byte is the model's choice (log 16). -/
def stateBytes (r : StateReport) : List Byte :=
  be8 (routeStateCode r.routeState) ++ be32 r.clock ++ be16 r.stopsLoaded ++
    set16 r.profilesLoaded ++ set8 r.classesLoaded ++
    be16 r.counts.valid ++ be16 r.counts.unread ++ be16 r.counts.read ++ be16 r.counts.carried ++
    be16 r.counts.missed ++
    be8 r.intakeCount ++ be8 (flagCode r.evaluating) ++ be16 r.records ++
    be16 r.sweepCount ++ r.slotStops.flatMap optional16 ++ optional16 r.leadStop ++
    be16 r.stopsPending ++ be16 r.stopsOpen ++ be16 r.stopsLinger ++ be16 r.stopsClosed ++
    be8 r.alertCount ++ be8 (flagCode r.stalled) ++ be8 (flagCode r.pass) ++
    be16 r.strangerCount ++ be8 (flagCode r.scanInFlight) ++
    orderBytes r.order ++
    listBytes (fun (b : BatchReport) => be16 b.number ++ be8 b.items ++ be8 b.timer) r.batches ++
    be16 r.batchCounter ++
    be8 (dockCode r.dock) ++ set16 r.view ++ set16 r.mask ++ be8 (flagCode r.alertLine)

/-- INCOMPLETE (R27): check number, then the failing item. -/
def gapBytes : LoadGap → List Byte
  | .noStop => be8 1
  | .missingStop position key stop => be8 2 ++ be16 position ++ keyBytes key ++ be16 stop
  | .missingProfile position key profile => be8 3 ++ be16 position ++ keyBytes key ++ be8 profile

/-- The body bytes of a response. The item figures of CONFIRM BATCH and REJECT BATCH, 1 to 64, in one byte are the model's choice, and so is
the order of CLEAR TAMPER's watch-map entries (log 16). -/
def bodyBytes : Reply → List Byte
  | .none => []
  | .position position => be16 position
  | .routePosition position => be16 position
  | .cleanCount count => be8 count
  | .incomplete gap => gapBytes gap
  | .routeState s => be8 (routeStateCode s)
  | .batch number items =>
    be16 number ++ be8 Config.confirmSeconds ++
      listBytes (fun (e : Nat × ItemContent) => be16 e.1 ++ itemBytes e.2) items
  | .windowFull batches => batches.flatMap batchTimeBytes
  | .nothing batched batches => be16 batched ++ listBytes batchTimeBytes batches
  | .confirmed number items total done s =>
    be16 number ++ be8 items ++ be16 total ++ be8 (flagCode done) ++ be8 (routeStateCode s)
  | .rejected number items => be16 number ++ be8 items
  | .stale number => be16 number
  | .tamperFields tamper latched watch deferred =>
    be8 (tamperStateCode tamper) ++ set8 latched ++ watchBytes watch ++ set8 deferred
  | .opened slot openTime => be8 slot.val ++ optional32 (some openTime)
  | .closed s carried missed sweepCount =>
    be8 (stopStateCode s) ++ be16 carried ++ be16 missed ++ be16 sweepCount
  | .stop r remaining lead => stopBytes r remaining lead
  | .skipped entry sweepCount => sweepBytes entry ++ be16 sweepCount
  | .sweep count entries => be16 count ++ listBytes sweepBytes entries
  | .acknowledged entry stalled count =>
    (entry.map alertBytes).getD [] ++ be8 (flagCode stalled) ++ be8 count
  | .alerts count stalled pass entries =>
    be8 count ++ be8 (flagCode stalled) ++ be8 (flagCode pass) ++ listBytes alertBytes entries
  | .pass pass stalled => be8 (flagCode pass) ++ be8 (flagCode stalled)
  | .member position r => memberBytes position r
  | .strangers count entries next =>
    be16 count ++ listBytes strangerBytes entries ++ be16 next
  | .found entries next => listBytes matchBytes entries ++ be16 next
  | .events view mask => set16 view ++ set16 mask
  | .state report => stateBytes report

/-- The frame of a response as sent on the line (R178). -/
def responseBytes (r : Response) : List Byte :=
  frameBytes (replyCode r.code) r.tag (bodyBytes r.body)
    (frameCheck (replyCode r.code) r.tag (bodyBytes r.body))

end Sys2Proof.Machine
end

