-- ==== Sys2Proof/Machine/Evaluator.lean ====
section
/-! DEFINITION. The consumption evaluator: the seven stages of a first hearing (4.3) and the tests of a later hearing (4.4).
Arithmetic is exact; a value is narrowed only where a stage states it (R68). -/

namespace Sys2Proof.Machine

/-- 2^W for a counter width (R66). -/
def modulus : Width → Nat
  | .half => 65536
  | .full => 4294967296

/-- A counter at a member's width: whole for FULL, its low 16 bits for HALF (R5, R58). -/
def atWidth (w : Width) (c : Word32) : Word32 :=
  match w with
  | .full => c
  | .half => BitVec.ofNat 32 (c.toNat % 65536)

/-- The wrap zone at a member's width (R72). -/
def zoneAt (w : Width) (p : Profile) : Nat :=
  match w with
  | .full => p.zone.toNat
  | .half => min p.zone.toNat 32768

/-- Stage 2: the elapsed time and CLOCK (R70). -/
def elapsed (t t0 : Word32) : Nat × IndicatorSet :=
  if t0 < t then (t.toNat - t0.toNat, 0)
  else if t = t0 then (0, 0)
  else (0, indClock)

/-- The rollover case of stage 3: the reference stands within the wrap zone of the top of the range, the new counter
within it of the bottom (R71, R72). -/
def rollsOver (w : Width) (p : Profile) (c c0 : Nat) : Bool :=
  modulus w - zoneAt w p ≤ c0 && c < zoneAt w p

/-- Stage 3: the delta of a counter against a reference counter, with WRAP or BACKSTEP (R71, R72). -/
def delta (w : Width) (p : Profile) (c c0 : Nat) : Nat × IndicatorSet :=
  if c0 ≤ c then (c - c0, 0)
  else if rollsOver w p c c0 then (c + modulus w - c0, indWrap)
  else if c0 - c ≤ p.window.toNat then (0, 0)
  else (0, indBackstep)

/-- The greatest rate, 4,294,967,295 (R73). -/
def rateLimit : Nat := 4294967295

/-- Stage 4 for E above 0: the rate, held at its limit with OVERRANGE (R73). -/
def rate (d e : Nat) : Nat × IndicatorSet :=
  if rateLimit < d * 3600 / e then (rateLimit, indOverrange) else (d * 3600 / e, 0)

/-- The quotient q of the middle case of stage 5, truncated toward zero (R74). -/
def slope (p : Profile) (e : Nat) : Int :=
  Int.tdiv (((p.ceilLong.toNat : Int) - p.ceilShort.toNat) * ((e : Int) - p.eshort.toNat))
    ((p.elong.toNat : Int) - p.eshort.toNat)

/-- Stage 5: the ceiling for an elapsed time (R74). -/
def ceiling (p : Profile) (e : Nat) : Nat :=
  if e ≤ p.eshort.toNat then p.ceilShort.toNat
  else if p.elong.toNat ≤ e then p.ceilLong.toNat
  else ((p.ceilShort.toNat : Int) + slope p e).toNat

/-- Stage 6: STILL (R75). -/
def still (p : Profile) (d e : Nat) (stage3 : IndicatorSet) : IndicatorSet :=
  raiseIf (p.idleSpan != 0 && d == 0 && decide (p.idleSpan.toNat ≤ e) && !meets stage3 indBackstep) indStill

/-- Stage 7: the meter flags (R76). -/
def meterFlags (t : Telegram) : IndicatorSet :=
  raiseIf t.magnet indMagnet ||| raiseIf t.opened indOpened ||| raiseIf t.reverse indReverse

/-- What the evaluator hands back on a first hearing (R77). -/
structure Judgement where
  indicators : IndicatorSet
  rate : Option Word32
  ceiling : Option Word32
  deriving DecidableEq, Repr

/-- Stages 2 to 6 of a first hearing against a prior reading: E, D and the indicators of stages 2 and 3; with
E = 0, NOTIME and no rate; otherwise the rate, the ceiling and stages 5 and 6 (R70 to R75). -/
def judgeHistory (w : Width) (p : Profile) (c t : Word32) (r : Reading) : Judgement :=
  let e := (elapsed t r.time).1
  let d := (delta w p c.toNat r.counter.toNat).1
  let clock := (elapsed t r.time).2
  let step := (delta w p c.toNat r.counter.toNat).2
  if e = 0 then ⟨clock ||| step ||| indNoTime, none, none⟩
  else
    ⟨clock ||| step ||| (rate d e).2 ||| raiseIf (ceiling p e < (rate d e).1) indHighRate |||
        still p d e step,
      some (BitVec.ofNat 32 (rate d e).1), some (BitVec.ofNat 32 (ceiling p e))⟩

/-- A first hearing's judgement, stages 1 to 7 (R68, R69, R77). `c` is the counter at the member's width. -/
def judgeFirst (w : Width) (p : Profile) (prior : Option Reading) (c : Word32) (t : Telegram) :
    Judgement :=
  let j : Judgement :=
    match prior with
    | none => ⟨indNoHistory, none, none⟩
    | some r => judgeHistory w p c t.time r
  { j with indicators := j.indicators ||| meterFlags t }

/-- The time and counter tests of a later hearing: indicators, and whether the record takes the
telegram's counter and meter time (R56, R78, R79). -/
def judgeLater (w : Width) (p : Profile) (c t : Word32) (held : Reading) : IndicatorSet × Bool :=
  if t < held.time then (indClock, false)
  else if t = held.time then (raiseIf (c != held.counter) indClone, false)
  else
    let step := (delta w p c.toNat held.counter.toNat).2
    (step, !meets step indBackstep)

end Sys2Proof.Machine
end

