-- ==== Sys2Proof/Machine/Directory.lean ====
section
/-! DEFINITION. The meter directory: lookup, filling, read states and the five counts (01_meter_directory.md). -/

namespace Sys2Proof.Machine

/-- The set of a meter number (R2). -/
def directorySet (k : Key) : Nat := k.number.toNat % Config.directorySets

/-- A lookup goes to the key's set and compares the key with its valid ways (R2). Answers the position
and the record. -/
def Directory.lookup (d : Directory) (k : Key) : Option (Nat × Member) :=
  d.ways.find? (fun e => e.1 / Config.ways == directorySet k && e.2.key == k)

/-- The lowest-numbered invalid way of a key's set, as a position (R9). -/
def Directory.freePosition (d : Directory) (k : Key) : Option Nat :=
  ([0, 1, 2, 3].map (fun w => directorySet k * Config.ways + w)).find?
    (fun p => (Table.find d.ways p).isNone)

/-- The counts with the count of one read state raised by 1 (R17). -/
def DirCounts.raise (c : DirCounts) : ReadState → DirCounts
  | .unread => { c with unread := c.unread + 1 }
  | .read => { c with read := c.read + 1 }
  | .carried => { c with carried := c.carried + 1 }
  | .missed => { c with missed := c.missed + 1 }

/-- The counts with the count of one read state lowered by 1 (R17). -/
def DirCounts.lower (c : DirCounts) : ReadState → DirCounts
  | .unread => { c with unread := c.unread - 1 }
  | .read => { c with read := c.read - 1 }
  | .carried => { c with carried := c.carried - 1 }
  | .missed => { c with missed := c.missed - 1 }

/-- A member placed in an invalid way: the valid count and the UNREAD count rise by 1 (R9, R17). -/
def Directory.fill (d : Directory) (position : Nat) (r : Member) : Directory :=
  { ways := Table.put position r d.ways
    counts := { d.counts with valid := d.counts.valid + 1, unread := d.counts.unread + 1 } }

/-- Changes the member record at a position. -/
def Part.onMember (position : Nat) (f : Member → Member) (m : Part) : Part :=
  { m with dir := { m.dir with ways := Table.modify position f m.dir.ways } }

/-- A read-state transition of the member at a position, with the counts it moves (R17). -/
def Part.setReadState (position : Nat) (r : ReadState) (m : Part) : Part :=
  match Table.find m.dir.ways position with
  | none => m
  | some old =>
    { m with dir :=
        { ways := Table.modify position (fun e => { e with readState := r }) m.dir.ways
          counts := (m.dir.counts.lower old.readState).raise r } }

/-- Valid members of a stop, by position (R17). -/
def Directory.ofStop (d : Directory) (stop : Nat) : List (Nat × Member) :=
  d.ways.filter (fun e => e.2.stop == stop)

/-- END ROUTE makes every UNREAD and CARRIED member MISSED (R12). -/
def Directory.giveUp (d : Directory) : Directory :=
  { ways := Table.mapValues
      (fun e => if e.readState = .read then e else { e with readState := .missed }) d.ways
    counts := { d.counts with
      unread := 0
      carried := 0
      missed := d.counts.missed + d.counts.unread + d.counts.carried } }

/-- The record LOAD MEMBER makes (R4, R5). -/
def Member.loaded (key : Key) (stop : Nat) (width : Width) (profile : Nat)
    (prior : Option Reading) : Member :=
  { key := key
    stop := stop
    width := width
    profile := profile
    prior := prior
    readState := .unread
    tamper := .clean
    latched := 0
    watch := []
    deferred := 0
    record := none }

end Sys2Proof.Machine
end

