-- ==== Sys2Proof/Machine/Tamper.lean ====
section
/-! DEFINITION. The tamper unit: firing, the tamper fields, alert entries, the alert queue and STALLED
(05_tamper_classes_and_alerts.md). -/

namespace Sys2Proof.Machine

/-- The record FINISH LOAD gives a class number not marked loaded (R85). -/
def ClassRecord.off : ClassRecord := ⟨0, .off, .prompt, false, 1⟩

/-- The class record of a number; before FINISH LOAD an unloaded number acts as OFF (log 14). -/
def Tamper.classOf (u : Tamper) (n : Nat) : ClassRecord := (Table.find u.classes n).getD .off

/-- The classes of a mode. -/
def Tamper.ofMode (u : Tamper) (mode : ClassMode) : ClassSet :=
  classesWhere (fun n => (u.classOf n).mode == mode)

/-- The classes of a timing. -/
def Tamper.ofTiming (u : Tamper) (timing : Timing) : ClassSet :=
  classesWhere (fun n => (u.classOf n).timing == timing)

/-- The classes with the stall attribute. -/
def Tamper.stallClasses (u : Tamper) : ClassSet := classesWhere (fun n => (u.classOf n).stall)

/-- The fired set of a hearing's indicators (R87). -/
def Tamper.fired (u : Tamper) (inds : IndicatorSet) : ClassSet :=
  classesWhere (fun n => (u.classOf n).mode != .off && meets (u.classOf n).mask inds)

/-- The indicators in the mask of at least one class of a set. -/
def Tamper.masks (u : Tamper) (classes : ClassSet) : IndicatorSet :=
  [0, 1, 2, 3].foldl (fun acc n => if inSet classes n then acc ||| (u.classOf n).mask else acc) 0

/-- The watch-map entry of one class after a hearing: 0 when a RETRY class fires; otherwise raised by
1, or removed when it would reach the clean count (R88). -/
def watchAfter (u : Tamper) (fired : ClassSet) (watch : Table Nat) (n : Nat) : Option Nat :=
  if inSet fired n && (u.classOf n).mode == .retry then some 0
  else
    match Table.find watch n with
    | none => none
    | some count => if count + 1 < (u.classOf n).clean then some (count + 1) else none

/-- The watch map after a hearing, classes rising (R88). -/
def watchMapAfter (u : Tamper) (fired : ClassSet) (watch : Table Nat) : Table Nat :=
  [0, 1, 2, 3].filterMap (fun n => (watchAfter u fired watch n).map (fun c => (n, c)))

/-- The tamper state that a latched set and a watch map give (R89). -/
def tamperStateOf (latched : ClassSet) (watch : Table Nat) : TamperState :=
  if latched != 0 then .flagged else if watch != [] then .watch else .clean

/-- An alert entry is offered to the queue: queued with ALERT_QUEUED, or lost to a full queue with
ALERT_OVERFLOW; a stall class in it sets STALLED, with STALL_BEGAN from clear (R96, R97). -/
def Part.offerAlert (a : Alert) (m : Part) : Part :=
  let m1 :=
    if m.tamper.alerts.length < Config.alertPlaces then
      { m with tamper := { m.tamper with alerts := m.tamper.alerts ++ [a] } }.setShared evAlertQueued
    else m.setShared evAlertOverflow
  if meets a.classes m.tamper.stallClasses then
    let m2 := { m1 with tamper := { m1.tamper with stalled := true } }
    if m.tamper.stalled then m2 else m2.setShared evStallBegan
  else m1

/-- What a hearing does to the tamper unit (R86): the fired set, and the part with the member's
tamper fields brought up to date and the prompt entry, if one is due, offered. -/
structure TamperOutcome where
  part : Part
  fired : ClassSet
  deriving DecidableEq, Repr

/-- The state of a stop. -/
def Part.stopState (m : Part) (stop : Nat) : Option StopState :=
  (Table.find m.stops.records stop).map Stop.state

/-- The classes of a hearing's prompt entry (R92). -/
def promptClasses (u : Tamper) (fired : ClassSet) (stopClosed : Bool) : ClassSet :=
  let active := fired &&& (u.ofMode .retry ||| u.ofMode .latch)
  (active &&& u.ofTiming .prompt) |||
    (if stopClosed then active &&& u.ofTiming .deferred else 0)

/-- The classes a hearing adds to the deferred-pending set (R93). -/
def deferredClasses (u : Tamper) (fired : ClassSet) (stopClosed : Bool) : ClassSet :=
  let active := fired &&& (u.ofMode .retry ||| u.ofMode .latch)
  if stopClosed then 0 else active &&& u.ofTiming .deferred

/-- The member's tamper fields after a hearing with a fired set (R87, R88, R89, R93). -/
def Member.heard (u : Tamper) (fired : ClassSet) (stopClosed : Bool) (r : Member) : Member :=
  let latched := r.latched ||| (fired &&& u.ofMode .latch)
  let watch := watchMapAfter u fired r.watch
  { r with
    latched := latched
    watch := watch
    tamper := tamperStateOf latched watch
    deferred := r.deferred ||| deferredClasses u fired stopClosed }

/-- The tamper outcome of a hearing of the member at a position (R86 to R93). -/
def Part.tamperOutcome (position : Nat) (r : Member) (inds : IndicatorSet) (m : Part) :
    TamperOutcome :=
  let fired := m.tamper.fired inds
  let stopClosed := m.stopState r.stop == some .closed
  let m1 := m.onMember position (Member.heard m.tamper fired stopClosed)
  let classes := promptClasses m.tamper fired stopClosed
  if classes = 0 then ⟨m1, fired⟩
  else
    ⟨m1.offerAlert
      { key := r.key
        stop := r.stop
        classes := classes
        indicators := inds &&& m.tamper.masks classes
        origin := .prompt
        time := m.route.clock }, fired⟩

/-- The deferred entry of a member: its deferred-pending classes, and the indicators of its reading
record that lie in their masks (R94). -/
def Part.deferredAlert (m : Part) (r : Member) : Alert :=
  { key := r.key
    stop := r.stop
    classes := r.deferred
    indicators :=
      ((r.record.bind (fun i => m.store[i]?)).elim 0 Record.indicators) &&& m.tamper.masks r.deferred
    origin := .deferred
    time := m.route.clock }

/-- Produces the deferred entry of one member and empties its deferred-pending set (R94, R95). -/
def Part.reportDeferred (m : Part) (e : Nat × Member) : Part :=
  (m.onMember e.1 (fun r => { r with deferred := 0 })).offerAlert (m.deferredAlert e.2)

/-- Produces the deferred entries of a stop's members, in key order (R94). -/
def Part.reportStop (stop : Nat) (m : Part) : Part :=
  (inKeyOrder ((m.dir.ofStop stop).filter (fun e => e.2.deferred != 0))).foldl Part.reportDeferred m

/-- Produces the deferred entries of every member, in ascending stop number and within a stop in key
order (R95). -/
def Part.reportAll (m : Part) : Part :=
  (orderBy (fun a b => decide (a.2.stop < b.2.stop) || (a.2.stop == b.2.stop && a.2.key.before b.2.key))
    (m.dir.ways.filter (fun e => e.2.deferred != 0))).foldl Part.reportDeferred m

/-- Removes classes from a member's latched set, watch map and deferred-pending set and recomputes
its tamper state (R102). -/
def Member.cleared (classes : ClassSet) (r : Member) : Member :=
  let latched := without r.latched classes
  let watch := r.watch.filter (fun e => !inSet classes e.1)
  { r with
    latched := latched
    watch := watch
    tamper := tamperStateOf latched watch
    deferred := without r.deferred classes }

/-- STALLED after an acknowledgement: it stays set only while an entry that remains names a stall
class (R98). -/
def stalledAfter (u : Tamper) (rest : List Alert) : Bool :=
  rest.any (fun a => meets a.classes u.stallClasses) && u.stalled

end Sys2Proof.Machine
end

