-- ==== Sys2Proof/Machine/StopUnit.lean ====
section
/-! DEFINITION. The stop unit: slots, the opening order, the closing of stops, lingers and the sweep list
(06_stops_slots_and_the_sweep_list.md). -/

namespace Sys2Proof.Machine

/-- The lead stop: the last of the opening order (R51, R111). -/
def Stops.lead (u : Stops) : Option Nat := u.order.getLast?

/-- The lowest-numbered free slot (R112). -/
def Stops.freeSlot (u : Stops) : Option (Fin 4) :=
  [0, 1, 2, 3].find? (fun (i : Fin 4) => u.slots[i].stop.isNone)

/-- The record of a stop number. -/
def Part.stop (m : Part) (n : Nat) : Option Stop := Table.find m.stops.records n

/-- Changes the stop unit. -/
def Part.onStops (f : Stops → Stops) (m : Part) : Part := { m with stops := f m.stops }

/-- Changes one stop record. -/
def Stops.onRecord (n : Nat) (f : Stop → Stop) (u : Stops) : Stops :=
  { u with records := Table.modify n f u.records }

/-- Writes a slot. -/
def Stops.setSlot (i : Fin 4) (s : Slot) (u : Stops) : Stops :=
  { u with slots := u.slots.set i.val s i.isLt }

/-- The remaining linger time of a stop in LINGER; absent in the other states (R125). -/
def Stops.remaining (u : Stops) (r : Stop) : Option Nat :=
  if r.state = .lingering then r.slot.bind (fun i => u.slots[i].timer.map Timer.left) else none

/-- What CLOSE STOP does to a stop: its effective mode (R113). -/
def effectiveMode (r : Stop) (override : Option CloseMode) : CloseMode :=
  match r.state with
  | .lingering => if override = some .drop then .drop else .carry
  | _ =>
    match override.getD r.mode with
    | .drop => .drop
    | .carry => .carry
    | .linger => if r.lingerTime = 0 then .carry else .linger

/-- A close under way: the part, with the members carried and missed so far. -/
structure Closing where
  part : Part
  carried : Nat
  missed : Nat
  deriving DecidableEq, Repr

/-- One UNREAD member of a CARRY close: appended to the sweep list and CARRIED while there is room,
MISSED otherwise (R115). -/
def carryMember (c : Closing) (e : Nat × Member) : Closing :=
  if c.part.stops.sweep.length < Config.sweepPlaces then
    { part := (c.part.setReadState e.1 .carried).onStops
        (fun u => { u with sweep := u.sweep ++ [⟨e.2.key, e.2.stop⟩] })
      carried := c.carried + 1
      missed := c.missed }
  else { c with part := c.part.setReadState e.1 .missed, missed := c.missed + 1 }

/-- One UNREAD member of a DROP close: MISSED (R114). -/
def dropMember (c : Closing) (e : Nat × Member) : Closing :=
  { c with part := c.part.setReadState e.1 .missed, missed := c.missed + 1 }

/-- A stop's UNREAD members in key order (R115). -/
def Part.unreadOf (m : Part) (stop : Nat) : List (Nat × Member) :=
  inKeyOrder ((m.dir.ofStop stop).filter (fun e => e.2.readState == .unread))

/-- The stop's UNREAD members dealt with by the mode: dropped, or carried with SWEEP_OVERFLOW when the
list turns one away (R114 step 2, R115). -/
def Part.disposeMembers (stop : Nat) (drop : Bool) (m : Part) : Closing :=
  if drop then (m.unreadOf stop).foldl dropMember ⟨m, 0, 0⟩
  else
    let c := (m.unreadOf stop).foldl carryMember ⟨m, 0, 0⟩
    if c.missed = 0 then c else { c with part := c.part.setShared evSweepOverflow }

/-- The stop's record becomes CLOSED, its slot is freed with its timer stopped, and it leaves the
opening order (R114 steps 1 and 3). -/
def Stops.shut (r : Stop) (u : Stops) : Stops :=
  let v := u.onRecord r.number (fun q => { q with state := .closed, slot := none })
  let w := match r.slot with
    | none => v
    | some i => v.setSlot i ⟨none, none⟩
  { w with order := w.order.filter (fun n => n != r.number) }

/-- Closes a stop as DROP or as CARRY (R114). -/
def Part.closeStop (r : Stop) (drop : Bool) (m : Part) : Closing :=
  let c := m.disposeMembers r.number drop
  { c with part := (c.part.onStops (Stops.shut r)).reportStop r.number }

/-- A LINGER close of an OPEN stop (R116). -/
def Stops.startLinger (r : Stop) (u : Stops) : Stops :=
  let v := u.onRecord r.number (fun q => { q with state := .lingering })
  let w := match r.slot with
    | none => v
    | some i => v.setSlot i ⟨some r.number, some (Timer.start r.lingerTime)⟩
  { w with order := w.order.filter (fun n => n != r.number) }

/-- A taken OPEN STOP in a slot (R112). -/
def Stops.openIn (i : Fin 4) (clock : Word32) (n : Nat) (u : Stops) : Stops :=
  let v := u.onRecord n (fun q =>
    { q with state := .opened, slot := some i, openTime := some clock })
  let w := v.setSlot i ⟨some n, none⟩
  { w with order := w.order ++ [n] }

/-- END ROUTE closes every OPEN and LINGER stop, frees every slot, empties the opening order and the
sweep list (R127). -/
def Stops.endRoute (u : Stops) : Stops :=
  { records := Table.mapValues
      (fun r => if r.state = .opened ∨ r.state = .lingering then
          { r with state := .closed, slot := none } else r) u.records
    slots := Vector.replicate 4 ⟨none, none⟩
    order := []
    sweep := [] }

/-- The stops in LINGER, in ascending stop number (R128). -/
def Stops.lingering (u : Stops) : List Stop :=
  (u.records.map Prod.snd).filter (fun r => r.state == .lingering)

/-- A warm restart closes each LINGER stop as CARRY, in ascending stop number (R107, R128). -/
def Part.closeLingering (m : Part) : Part :=
  m.stops.lingering.foldl (fun m r => (m.closeStop r false).part) m

/-- A slot at the end of a second (R118). -/
def Slot.tick (s : Slot) : Slot := { s with timer := s.timer.map Timer.tick }

/-- Stops in a state (R126). -/
def Stops.inState (u : Stops) (s : StopState) : Nat := u.records.countP (fun e => e.2.state == s)

end Sys2Proof.Machine
end

