-- ==== Sys2Proof/Machine/Strangers.lean ====
section
/-! DEFINITION. The stranger table: lookup, refresh, insertion, eviction and the replacement tree (07_stranger_table.md). -/

namespace Sys2Proof.Machine

/-- The set of a meter number (R130). -/
def strangerSet (k : Key) : Nat := k.number.toNat % Config.strangerSets

theorem strangerSet_lt (k : Key) : strangerSet k < 64 := Nat.mod_lt _ (by decide)

/-- A lookup goes to the key's set and compares the key with its valid ways (R130). -/
def Strangers.lookup (t : Strangers) (k : Key) : Option (Nat × Stranger) :=
  t.entries.find? (fun e => e.1 / Config.ways == strangerSet k && e.2.key == k)

/-- The lowest-numbered invalid way of a key's set (R135). -/
def Strangers.freeWay (t : Strangers) (k : Key) : Option Nat :=
  [0, 1, 2, 3].find? (fun w => (Table.find t.entries (strangerSet k * Config.ways + w)).isNone)

/-- The tree bits of a key's set. -/
def Strangers.tree (t : Strangers) (k : Key) : Tree := t.trees[strangerSet k]'(strangerSet_lt k)

/-- The tree bits after a touch of a way (R136). -/
def Tree.touch (b : Tree) (way : Nat) : Tree :=
  match way with
  | 0 => { b with b0 := true, b1 := true }
  | 1 => { b with b0 := true, b1 := false }
  | 2 => { b with b0 := false, b2 := true }
  | _ => { b with b0 := false, b2 := false }

/-- The victim of a full set (R137). -/
def Tree.victim (b : Tree) : Nat :=
  match b.b0, b.b1, b.b2 with
  | false, false, _ => 0
  | false, true, _ => 1
  | true, _, false => 2
  | true, _, true => 3

/-- Touches a way of a key's set (R136). -/
def Strangers.touch (t : Strangers) (k : Key) (way : Nat) : Strangers :=
  { t with trees := t.trees.set (strangerSet k) ((t.tree k).touch way) (strangerSet_lt k) }

/-- A count that saturates at 255 (R55, R134). -/
def countHearing (n : Nat) : Nat := min (n + 1) 255

/-- The greater of two signal strengths (R55, R134). -/
def betterSignal (a b : Byte) : Byte := if a < b then b else a

/-- A refreshed entry (R134). -/
def Stranger.refreshed (e : Stranger) (counter : Word32) (signal : Byte) : Stranger :=
  { e with
    hearings := countHearing e.hearings
    counter := counter
    signal := betterSignal e.signal signal }

/-- A new entry (R131). -/
def Stranger.new (k : Key) (counter : Word32) (signal : Byte) (arrival : Word32)
    (lead : Option Nat) : Stranger :=
  { key := k
    hearings := 1
    firstHeard := arrival
    firstStop := lead
    counter := counter
    signal := signal
    upload := .fresh }

/-- A refresh of the entry at a position (R134). -/
def Strangers.refresh (t : Strangers) (position : Nat) (q : Queued) : Strangers :=
  Strangers.touch
    { t with
      entries := Table.modify position
        (fun e => e.refreshed q.telegram.counter q.telegram.signal) t.entries }
    q.telegram.key (position % Config.ways)

/-- The entry a telegram makes (R131). -/
def Stranger.ofQueued (q : Queued) (lead : Option Nat) : Stranger :=
  .new q.telegram.key q.telegram.counter q.telegram.signal q.arrival lead

/-- An insertion into an invalid way (R135). -/
def Strangers.insert (t : Strangers) (way : Nat) (q : Queued) (lead : Option Nat) : Strangers :=
  Strangers.touch
    { t with
      entries := Table.put (strangerSet q.telegram.key * Config.ways + way)
        (.ofQueued q lead) t.entries
      count := t.count + 1 }
    q.telegram.key way

/-- An insertion in place of the victim of a full set (R138). -/
def Strangers.evict (t : Strangers) (q : Queued) (lead : Option Nat) : Strangers :=
  let way := (t.tree q.telegram.key).victim
  Strangers.touch
    { t with
      entries := Table.put (strangerSet q.telegram.key * Config.ways + way)
        (.ofQueued q lead) t.entries }
    q.telegram.key way

/-- A stranger's telegram reaches the table (R133): refresh, insertion, or eviction with STRANGER_EVICTED. -/
def Part.hearStranger (q : Queued) (lead : Option Nat) (m : Part) : Part :=
  match m.strangers.lookup q.telegram.key with
  | some e => { m with strangers := m.strangers.refresh e.1 q }
  | none =>
    match m.strangers.freeWay q.telegram.key with
    | some way => { m with strangers := m.strangers.insert way q lead }
    | none =>
      Part.setShared evStrangerEvicted { m with strangers := m.strangers.evict q lead }

/-- The entries of READ STRANGERS: up to 8 valid entries from a start position upward, each with its
set's tree bits (R139). -/
def Strangers.read (t : Strangers) (start : Nat) : List StrangerReport :=
  ((t.entries.filter (fun e => decide (start ≤ e.1))).take Config.readEntries).map
    (fun e => ⟨e.1, t.tree e.2.key, e.2⟩)

/-- The next position of a READ STRANGERS response: one above the last entry given when 8 are given,
256 when fewer are (R139). -/
def nextPosition (given : List StrangerReport) : Nat :=
  if given.length < Config.readEntries then Config.strangerPlaces
  else (given.getLast?.map (fun r => r.position + 1)).getD Config.strangerPlaces

end Sys2Proof.Machine
end

