-- ==== Sys2Proof/Machine/Intake.lean ====
section
/-! DEFINITION. The intake engine and the reading store: the radio port's answers, the take, first and later hearings, and
the completion of an evaluation (03_telegram_intake.md). -/

namespace Sys2Proof.Machine

/-- The free engine takes the head of the intake queue (R46). -/
def Intake.take (k : Intake) : Intake :=
  match k.eval, k.queue with
  | none, q :: rest => { queue := rest, eval := some ⟨q, false⟩ }
  | _, _ => k

/-- The intake queue is emptied and the telegram in evaluation is marked void (R47). -/
def Intake.void (k : Intake) : Intake :=
  { queue := [], eval := k.eval.map (fun e => { e with void := true }) }

/-- A telegram joins the tail of the queue with its arrival time, and is taken at once by a free engine
(R42, R46). -/
def Part.queueTelegram (t : Telegram) (m : Part) : Part :=
  { m with
    intake := Intake.take { m.intake with queue := m.intake.queue ++ [⟨t, m.route.clock⟩] } }

/-- The radio port's tests of a sound TELEGRAM: IDLE, FULL with INTAKE_FULL, or TAKEN (R42 tests 3 to 5). -/
def Part.receiveTelegram (tag : Byte) (t : Telegram) (m : Part) : Part :=
  if m.route.state ≠ .running then m.answerRadio tag .idle
  else if m.intake.queue.length < Config.intakePlaces then
    (m.queueTelegram t).answerRadio tag .taken
  else (m.setShared evIntakeFull).answerRadio tag .full

/-- Judges a complete frame on the radio port (R42, R43, R180): BADCHECK for a malformed frame, another
code, a wrong length, a failed check or an unknown kind. -/
def serveRadio (f : RxFrame) (m : Part) : Part :=
  match f with
  | .malformed _ => m.answerRadio f.tag .badCheck
  | .byLength code tag body _ =>
    if code ≠ telegramCode ∨ f.checkHolds = false then m.answerRadio tag .badCheck
    else
      match telegramOf body with
      | none => m.answerRadio tag .badCheck
      | some t => m.receiveTelegram tag t

/-- The profile of an index; an unloaded index holds no values (R65, log 13). -/
def Part.profile (m : Part) (n : Nat) : Profile :=
  (Table.find m.profiles n).getD
    { ceilShort := Config.unloadedProfileField n 0
      ceilLong := Config.unloadedProfileField n 1
      eshort := Config.unloadedProfileField n 2
      elong := Config.unloadedProfileField n 3
      window := (Config.unloadedProfileField n 4).setWidth 16
      zone := (Config.unloadedProfileField n 5).setWidth 16
      idleSpan := Config.unloadedProfileField n 6 }

/-- The reading record a first hearing makes (R53). -/
def Record.new (index : Nat) (r : Member) (q : Queued) (counter : Word32) (lead : Option Nat)
    (j : Judgement) (fired : ClassSet) : Record :=
  { index := index
    key := r.key
    counter := counter
    time := q.telegram.time
    firstHeard := q.arrival
    leadStop := lead
    hearings := 1
    signal := q.telegram.signal
    batteryLow := q.telegram.batteryLow
    indicators := j.indicators
    fired := fired
    rate := j.rate
    ceiling := j.ceiling
    upload := .fresh
    batch := none }

/-- A first hearing of the member at a position (R52): evaluation, tamper outcome, reading record, member,
sweep list, stop count. -/
def Part.firstHearing (position : Nat) (r : Member) (q : Queued) (m : Part) : Part :=
  let counter := atWidth r.width q.telegram.counter
  let j := judgeFirst r.width (m.profile r.profile) r.prior counter q.telegram
  let o := m.tamperOutcome position r j.indicators
  let m1 := { o.part with store := o.part.store ++
    [Record.new o.part.store.length r q counter m.stops.lead j o.fired] }
  let m2 := (m1.setReadState position .read).onMember position
    (fun e => { e with record := some m.store.length })
  m2.onStops (fun u =>
    { u with
      sweep := if r.readState = .carried then u.sweep.filter (fun e => e.key != r.key) else u.sweep
      records := Table.modify r.stop (fun s => { s with readCount := s.readCount + 1 }) u.records })

/-- A reading record after a later hearing (R55, R56, R57). -/
def Record.heard (e : Record) (t : Telegram) (counter : Word32) (taken : Bool) (inds : IndicatorSet)
    (fired : ClassSet) : Record :=
  { e with
    hearings := countHearing e.hearings
    signal := betterSignal e.signal t.signal
    batteryLow := e.batteryLow || t.batteryLow
    counter := if taken then counter else e.counter
    time := if taken then t.time else e.time
    indicators := e.indicators ||| inds
    fired := e.fired ||| fired }

/-- A later hearing of the READ member at a position, whose reading record stands at an index (R55 to R57). -/
def Part.laterHearing (position : Nat) (r : Member) (index : Nat) (e : Record) (q : Queued)
    (m : Part) : Part :=
  let counter := atWidth r.width q.telegram.counter
  let test := judgeLater r.width (m.profile r.profile) counter q.telegram.time ⟨e.counter, e.time⟩
  let inds := test.1 ||| meterFlags q.telegram
  let o := m.tamperOutcome position r inds
  { o.part with
    store := o.part.store.modify index
      (fun e => e.heard q.telegram counter test.2 inds o.fired) }

/-- What an accepted telegram does at its completion (R48): a stranger, a first hearing or a later hearing.
A READ member always has its record (R7, R54); without one nothing is done (log 14). -/
def Part.hear (q : Queued) (m : Part) : Part :=
  match m.dir.lookup q.telegram.key with
  | none => m.hearStranger q m.stops.lead
  | some (position, r) =>
    if r.readState = .read then
      match r.record with
      | none => m
      | some index =>
        match m.store[index]? with
        | none => m
        | some e => m.laterHearing position r index e q
    else m.firstHearing position r q

/-- The completion of the telegram in evaluation (R48): dropped when void or outside RUNNING, otherwise
heard; then the engine takes the next head (R46). -/
def Part.completeTelegram (e : Evaluation) (m : Part) : Part :=
  let free := { m with intake := { m.intake with eval := none } }
  let heard := if e.void ∨ m.route.state ≠ .running then free else free.hear e.queued
  { heard with intake := heard.intake.take }

end Sys2Proof.Machine
end

