-- ==== Sys2Proof/Machine/Query.lean ====
section
/-! DEFINITION. The query engines: fitting, scans, their reaches and completion (08_member_queries.md). -/

namespace Sys2Proof.Machine

def readStateBit : ReadState → Nat
  | .unread => 0
  | .read => 1
  | .carried => 2
  | .missed => 3

def tamperBit : TamperState → Nat
  | .clean => 0
  | .watch => 1
  | .flagged => 2

/-- A member fits a selection (R145). -/
def Selection.fits (s : Selection) (r : Member) : Bool :=
  inSet s.readStates (readStateBit r.readState) && inSet s.tamperStates (tamperBit r.tamper) &&
    inSet s.kinds (kindCode r.key.kind - 1) &&
    inSet s.histories (if r.prior.isSome then 0 else 1) &&
    (match s.stop with
      | none => true
      | some n => r.stop == n)

/-- One of the four set-valued selections is empty, so no member can fit (R147). -/
def Selection.vacuous (s : Selection) : Bool :=
  s.readStates == 0 || s.tamperStates == 0 || s.kinds == 0 || s.histories == 0

/-- The match entry of a member at a position, as it stands at the reach (R148). -/
def matchOf (position : Nat) (r : Member) : Match :=
  ⟨position, r.key, r.stop, r.readState, r.tamper⟩

/-- The scan after the reach of its next position (R148). -/
def Scan.reach (c : Scan) (d : Directory) : Scan :=
  { c with
    next := c.next + 1
    found :=
      match Table.find d.ways c.next with
      | some r => if c.selection.fits r then c.found ++ [matchOf c.next r] else c.found
      | none => c.found }

/-- A scan completes at its sixteenth match, or once position 8,191 is passed (R149). -/
def Scan.complete (c : Scan) : Bool :=
  decide (Config.matchEntries ≤ c.found.length) || decide (Config.directoryPlaces ≤ c.next)

/-- Writes a port's scan context. -/
def Part.setScan (p : HostPort) (c : Option Scan) (m : Part) : Part :=
  m.onPort p (fun q => { q with scan := c })

/-- The reach of a scan's next position, with the scan's completion when it comes (R148, R149). -/
def Part.reachScan (p : HostPort) (c : Scan) (m : Part) : Part :=
  let c1 := c.reach m.dir
  if c1.complete then
    (m.setScan p none).send (portLine p) ⟨.ok, c.tag, .found c1.found c1.next, true⟩
  else m.setScan p (some c1)

/-- A scan in flight is answered ENDED and its context becomes free (R153). -/
def Part.endScan (p : HostPort) (m : Part) : Part :=
  match (m.port p).scan with
  | none => m
  | some c => (m.setScan p none).send (portLine p) ⟨.ended, c.tag, .none, true⟩

/-- The port's query engine is busy: a scan in flight, or the last scan's response still in the output
queue (R146). -/
def Part.queryBusy (m : Part) (p : HostPort) : Bool :=
  (m.port p).scan.isSome || (m.port p).link.scanWaits

end Sys2Proof.Machine
end

