-- ==== Sys2Proof/Machine/UploadUnit.lean ====
section
/-! DEFINITION. The upload engine: the upload order, item states, batches and their numbers (09_depot_upload.md). -/

namespace Sys2Proof.Machine

/-- The items of the upload order: none when no order stands (R158). -/
def Upload.items (u : Upload) : List UploadItem := u.order.getD []

/-- The upload state of an item, read where its record lives (R162). -/
def Part.itemState (m : Part) : UploadItem → UploadState
  | .reading i => (m.store[i]?.map Record.upload).getD .fresh
  | .miss _ s => s
  | .stranger p => ((Table.find m.strangers.entries p).map Stranger.upload).getD .fresh

/-- Items of the order in an upload state (R177). -/
def Part.countItems (m : Part) (s : UploadState) : Nat :=
  m.upload.items.countP (fun i => m.itemState i == s)

/-- Forms the upload order: reading items in store order, miss items in key order, stranger items in
position order, every item FRESH (R158). -/
def Part.formOrder (m : Part) : Part :=
  { m with
    upload := { m.upload with order := some (
      (List.range m.store.length).map UploadItem.reading ++
      (inKeyOrder (m.dir.ways.filter (fun e => e.2.readState == .missed))).map
        (fun e => UploadItem.miss e.2.key .fresh) ++
      m.strangers.entries.map (fun e => UploadItem.stranger e.1)) }
    store := m.store.map (fun r => { r with upload := .fresh, batch := none })
    strangers := { m.strangers with
      entries := Table.mapValues (fun e => { e with upload := .fresh }) m.strangers.entries } }

/-- Writes the upload state of the item with a number where its record lives, and a reading record's
batch number with it (R162). -/
def Part.setItem (s : UploadState) (batch : Option Nat) (m : Part) (n : Nat) : Part :=
  match m.upload.items[n]? with
  | none => m
  | some (.reading i) =>
    { m with store := m.store.modify i (fun r => { r with upload := s, batch := batch }) }
  | some (.miss key _) =>
    { m with upload := { m.upload with order := m.upload.order.map (fun o => o.set n (.miss key s)) } }
  | some (.stranger p) =>
    { m with strangers := { m.strangers with
        entries := Table.modify p (fun e => { e with upload := s }) m.strangers.entries } }

/-- Writes the upload state of every item of a list of item numbers. -/
def Part.setItems (s : UploadState) (batch : Option Nat) (numbers : List Nat) (m : Part) : Part :=
  numbers.foldl (Part.setItem s batch) m

/-- The numbers of the FRESH items, ascending (R166). -/
def Part.freshItems (m : Part) : List Nat :=
  (m.upload.items.zipIdx.filter (fun e => m.itemState e.1 == .fresh)).map Prod.snd

/-- The number after a batch number, wrapping from 65,535 to 1 (R164). -/
def nextNumber (n : Nat) : Nat := if Config.lastBatchNumber ≤ n then 1 else n + 1

/-- The number of the next batch: the other outstanding batch's number is passed over (R164). -/
def Upload.newNumber (u : Upload) : Nat :=
  let n := nextNumber u.counter
  if u.batches.any (fun b => b.number == n) then nextNumber n else n

/-- What an item carries in a batch, read as its record stands when the batch is formed (R159 to R161). -/
def Part.itemContent (m : Part) : UploadItem → Option ItemContent
  | .reading i => m.store[i]?.map ItemContent.reading
  | .miss key _ =>
    (m.dir.lookup key).map (fun e => ItemContent.miss key e.2.stop e.2.tamper e.2.latched)
  | .stranger p => (Table.find m.strangers.entries p).map (ItemContent.stranger p)

/-- The items of a batch with their numbers and contents (R166). -/
def Part.batchContents (m : Part) (numbers : List Nat) : List (Nat × ItemContent) :=
  numbers.filterMap (fun n =>
    (m.upload.items[n]?.bind m.itemContent).map (fun c => (n, c)))

/-- Forms a batch of some items under a number (R166). -/
def Part.formBatch (number : Nat) (numbers : List Nat) (m : Part) : Part :=
  let m1 := m.setItems .batched (some number) numbers
  { m1 with upload := { m1.upload with
      batches := m1.upload.batches ++ [⟨number, numbers, Timer.start Config.confirmSeconds⟩]
      counter := number } }

/-- The outstanding batch with a number. -/
def Upload.batch (u : Upload) (number : Nat) : Option Batch :=
  u.batches.find? (fun b => b.number == number)

/-- A batch leaves the batch table, its timer stopped (R163). -/
def Part.retire (number : Nat) (m : Part) : Part :=
  { m with upload := { m.upload with
      batches := m.upload.batches.filter (fun b => b.number != number) } }

/-- A batch's items return to FRESH, its reading records lose their batch number, and it is retired (R167, R169). -/
def Part.returnBatch (b : Batch) (m : Part) : Part :=
  (m.setItems .fresh none b.items).retire b.number

/-- Every outstanding batch is returned (R172, R174). -/
def Part.returnBatches (m : Part) : Part :=
  m.upload.batches.foldl (fun m b => m.returnBatch b) m

/-- Every outstanding batch is returned, and BATCH_RETURNED is set if there was one (R172, R173). -/
def Part.breakLink (m : Part) : Part :=
  if m.upload.batches.isEmpty then m else m.returnBatches.setShared evBatchReturned

/-- A batch's items become CONFIRMED, reading records keep its number, and it is retired (R162, R168). -/
def Part.confirmItems (b : Batch) (m : Part) : Part :=
  (m.setItems .confirmed (some b.number) b.items).retire b.number

/-- Every item of the order is CONFIRMED (R36, R168). -/
def Part.allConfirmed (m : Part) : Bool := m.upload.items.all (fun i => m.itemState i == .confirmed)

/-- The numbers and remaining confirm times of the outstanding batches (R165). -/
def Upload.times (u : Upload) : List (Nat × Nat) := u.batches.map (fun b => (b.number, b.timer.left))

/-- A batch at the end of a second (R167). -/
def Batch.tick (b : Batch) : Batch := { b with timer := b.timer.tick }

end Sys2Proof.Machine
end

