-- ==== Sys2Proof/Machine/Restart.lean ====
section
/-! DEFINITION. Restarts, resets and lines: cold start, warm restart, port resets, the dock line and the retention controller
(R184, R194 to R199). -/

namespace Sys2Proof.Machine

/-- The dock status taken from the line as it stands (R184, R195, R197). -/
def Part.sampleDock (m : Part) : Part :=
  { m with ports := { m.ports with dock := if m.ports.dockLine then .docked else .undocked } }

/-- A port's controller cleared: frame assembly, held frame, output queue, local events, mask, scan
context (R154, R197 to R199). Its reset line keeps its level. -/
def PortState.cleared (q : PortState) : PortState :=
  { q with link := q.link.emptied, locals := 0, mask := 0, scan := none }

/-- The port controllers cleared, both event views and masks empty (R197). -/
def Part.clearPorts (m : Part) : Part :=
  { m with ports := { m.ports with
      radio := m.ports.radio.emptied
      cab := m.ports.cab.cleared
      depot := m.ports.depot.cleared
      shared := 0 } }

/-- The volatile state outside the stop unit and the upload engine cleared: port controllers, intake
queue and evaluation, scan contexts, PASS (R61, R100, R155, R197). -/
def Part.clearVolatile (m : Part) : Part :=
  { m.clearPorts with
    intake := ⟨[], none⟩
    tamper := { m.tamper with pass := false } }

/-- A cold start: every state takes its cold-start value, the marker becomes VALID last; the input
lines keep their levels (R195). -/
def Part.coldStart (m : Part) : Part :=
  .cold m.ports.cab.resetHeld m.ports.depot.resetHeld m.ports.dockLine m.power.resetHeld m.choices

/-- A warm restart: volatile state cleared, lingering stops closed as CARRY with their deferred entries, outstanding
batches returned; events set on the way are emptied with the views (R107, R128, R174, R197). -/
def Part.warmRestart (m : Part) : Part :=
  let m1 := m.clearVolatile.closeLingering.returnBatches.clearPorts
  m1.sampleDock

/-- The start a retention marker calls for (R194). -/
def startFor : Marker → Start
  | .valid => .warm
  | .invalid => .cold

/-- Makes a start. -/
def Part.start (s : Start) (m : Part) : Part :=
  match s with
  | .cold => m.coldStart
  | .warm => m.warmRestart

/-- POWER_UP (R194): the marker is read, INVALID if the memory was not kept; the start is made, or held
back while the RESET line is held. -/
def Part.powerUp (memoryKept : Bool) (m : Part) : Part :=
  let marker := if memoryKept then m.power.marker else .invalid
  let m1 := { m with power := { m.power with powered := true, marker := marker, due := none } }
  if m.power.resetHeld then
    { m1 with power := { m1.power with due := some (startFor marker) } }
  else m1.start (startFor marker)

/-- POWER_LOSS (R196): the supply is off; retained state stays, volatile state goes (log 11). -/
def Part.powerLoss (m : Part) : Part :=
  { m.clearVolatile with power := { m.power with powered := false, due := none } }

/-- RESET (R197): the line is held; a warm restart while the marker is VALID, else a cold start is due at the
release, both views and masks empty meanwhile (R191). Without supply only the line's level changes. -/
def Part.assertReset (m : Part) : Part :=
  let m1 := { m with power := { m.power with resetHeld := true } }
  if m.power.powered then
    match m.power.marker with
    | .valid => m1.warmRestart
    | .invalid => { m1.clearVolatile with power := { m1.power with due := some .cold } }
  else m1

/-- RESET_RELEASE (R197): the part resumes, with the start that is due, or with the dock status taken from the line. -/
def Part.releaseReset (m : Part) : Part :=
  let m1 := { m with power := { m.power with resetHeld := false, due := none } }
  if m.power.powered then
    match m.power.due with
    | some s => m1.start s
    | none => m1.sampleDock
  else m1

/-- CAB_PORT_RESET (R198): the cab port's controller is cleared and PASS is off; where the part does
not run, only the line's level changes (log 9). -/
def Part.resetCab (m : Part) : Part :=
  let m1 := m.onPort .cab (fun q => { q with resetHeld := true })
  if m.alive then
    { m1.onPort .cab PortState.cleared with tamper := { m.tamper with pass := false } }
  else m1

/-- DEPOT_PORT_RESET (R199): the depot port's controller is cleared, then outstanding batches are returned. -/
def Part.resetDepot (m : Part) : Part :=
  let m1 := m.onPort .depot (fun q => { q with resetHeld := true })
  if m.alive then (m1.onPort .depot PortState.cleared).breakLink else m1

/-- A port reset line is released (R198, R199). -/
def Part.releasePort (p : HostPort) (m : Part) : Part :=
  m.onPort p (fun q => { q with resetHeld := false })

/-- DOCK_LINE_RISING (R184): DOCKED, and the event DOCKED; where the part does not run, only the level
changes (R197, log 9). -/
def Part.dock (m : Part) : Part :=
  let m1 := { m with ports := { m.ports with dockLine := true } }
  if m.alive then m1.sampleDock.setLocal .depot evDocked else m1

/-- DOCK_LINE_FALLING (R184): UNDOCKED; depot frames and responses discarded, the depot scan freed,
outstanding batches returned. Mask and view are kept. -/
def Part.undock (m : Part) : Part :=
  let m1 := { m with ports := { m.ports with dockLine := false } }
  if m.alive then
    (m1.sampleDock.onPort .depot
      (fun q => { q with link := q.link.emptied, scan := none })).breakLink
  else m1

/-- END_OF_SECOND (R30, R118, R167): the running route clock rises by 1, holding at 4,294,967,295, and
every running linger and confirm timer falls by 1, or becomes due at the end of its last second (log 4). -/
def Part.endSecond (m : Part) : Part :=
  { m with
    route := { m.route with
      clock := if m.route.clockRunning ∧ m.route.clock ≠ BitVec.allOnes 32 then m.route.clock + 1
        else m.route.clock }
    stops := { m.stops with slots :=
      #v[m.stops.slots[0].tick, m.stops.slots[1].tick, m.stops.slots[2].tick, m.stops.slots[3].tick] }
    upload := { m.upload with batches := m.upload.batches.map Batch.tick } }

/-- LINGER_EXPIRY of a slot whose timer's last second has ended (R118): the timer reaches 0, the stop closes as CARRY and LINGER_ENDED
is set. For any other slot no expiry is taken (log 4). -/
def Part.expireLinger (i : Fin 4) (m : Part) : Part :=
  match m.stops.slots[i].stop.bind m.stop, m.stops.slots[i].timer with
  | some r, some t => if t.due then (m.closeStop r false).part.setLocal .cab evLingerEnded else m
  | _, _ => m

/-- CONFIRM_TIMER_EXPIRY of a batch whose timer's last second has ended (R167): the timer reaches 0, its items return to FRESH and BATCH_RETURNED is
set. For any other number no expiry is taken (log 4). -/
def Part.expireBatch (number : Nat) (m : Part) : Part :=
  match m.upload.batch number with
  | none => m
  | some b => if b.timer.due then (m.returnBatch b).setShared evBatchReturned else m

end Sys2Proof.Machine
end

