-- ==== Sys2Proof/Machine/Loading.lean ====
section
/-! DEFINITION. What the depot's loading and route requests do when their frame arrives: BEGIN LOAD, LOAD STOP, LOAD MEMBER,
LOAD PROFILE, LOAD CLASS, FINISH LOAD, CLEAR ROUTE, BEGIN UPLOAD; and the cab's START ROUTE and END ROUTE
(02_route_book_and_loading.md). Each tests in its entry's order and answers. -/

namespace Sys2Proof.Machine

/-- BEGIN LOAD (R22). -/
def serveBeginLoad (tag : Byte) (body : List Byte) (m : Part) : Part :=
  if m.route.state ≠ .empty then m.refuse .depot tag .wrongState
  else if !emptyBody body then m.refuse .depot tag .badValue
  else (m.moveRoute .loading).answer .depot tag .ok .none

/-- The record LOAD STOP makes (R24). -/
def Stop.loaded (f : LoadStopFields) (position : Nat) : Stop :=
  { number := f.stop
    position := position
    mode := f.mode
    lingerTime := f.lingerTime
    members := 0
    readCount := 0
    state := .pending
    slot := none
    openTime := none }

/-- LOAD STOP (R23, R24). -/
def serveLoadStop (tag : Byte) (body : List Byte) (m : Part) : Part :=
  if m.route.state ≠ .loading then m.refuse .depot tag .wrongState
  else
    match loadStopOf body with
    | none => m.refuse .depot tag .badValue
    | some f =>
      if (m.stop f.stop).isSome then m.refuse .depot tag .duplicate
      else
        Part.answer .depot tag .ok (.routePosition m.route.stopsLoaded)
          { m with
            stops := { m.stops with
              records := Table.put f.stop (.loaded f m.route.stopsLoaded) m.stops.records }
            route := { m.route with stopsLoaded := m.route.stopsLoaded + 1 } }

/-- LOAD MEMBER (R8, R9); a HALF member keeps its prior counter modulo 65,536 (R5). -/
def serveLoadMember (tag : Byte) (body : List Byte) (m : Part) : Part :=
  if m.route.state ≠ .loading then m.refuse .depot tag .wrongState
  else
    match loadMemberOf body with
    | none => m.refuse .depot tag .badValue
    | some f =>
      if (m.dir.lookup f.key).isSome then m.refuse .depot tag .duplicate
      else
        match m.dir.freePosition f.key with
        | none => m.refuse .depot tag .setFull
        | some position =>
          Part.answer .depot tag .ok (.position position)
            { m with
              dir := m.dir.fill position (.loaded f.key f.stop f.width f.profile
                (f.prior.map (fun r => { r with counter := atWidth f.width r.counter }))) }

/-- LOAD PROFILE (R25, R64). -/
def serveLoadProfile (tag : Byte) (body : List Byte) (m : Part) : Part :=
  if m.route.state ≠ .loading then m.refuse .depot tag .wrongState
  else
    match loadProfileOf body with
    | none => m.refuse .depot tag .badValue
    | some (n, p) =>
      Part.answer .depot tag .ok .none
        { m with
          profiles := Table.put n p m.profiles
          route := { m.route with
            profilesLoaded := m.route.profilesLoaded ||| BitVec.ofNat 16 (2 ^ n) } }

/-- LOAD CLASS (R25, R84). -/
def serveLoadClass (tag : Byte) (body : List Byte) (m : Part) : Part :=
  if m.route.state ≠ .loading then m.refuse .depot tag .wrongState
  else
    match loadClassOf body with
    | none => m.refuse .depot tag .badValue
    | some (n, c) =>
      Part.answer .depot tag .ok (.cleanCount c.clean)
        { m with
          tamper := { m.tamper with classes := Table.put n c m.tamper.classes }
          route := { m.route with
            classesLoaded := m.route.classesLoaded ||| BitVec.ofNat 4 (2 ^ n) } }

/-- The first check of the route book that fails (R27); "first" is the lowest directory position. -/
def Part.loadGap (m : Part) : Option LoadGap :=
  if m.route.stopsLoaded = 0 then some .noStop
  else
    match m.dir.ways.find? (fun e => (m.stop e.2.stop).isNone) with
    | some e => some (.missingStop e.1 e.2.key e.2.stop)
    | none =>
      (m.dir.ways.find? (fun e => !inSet m.route.profilesLoaded e.2.profile)).map
        (fun e => .missingProfile e.1 e.2.key e.2.profile)

/-- Every class number not marked loaded becomes OFF (R28, R85). -/
def Part.fillClasses (m : Part) : Part :=
  { m with tamper := { m.tamper with
      classes := [0, 1, 2, 3].map (fun n =>
        (n, if inSet m.route.classesLoaded n then m.tamper.classOf n else .off)) } }

/-- Every stop's member count is derived from the directory (R28). -/
def Part.countMembers (m : Part) : Part :=
  m.onStops (fun u => { u with
    records := Table.mapValues
      (fun r => { r with members := (m.dir.ofStop r.number).length }) u.records })

/-- FINISH LOAD (R27, R28). -/
def serveFinishLoad (tag : Byte) (body : List Byte) (m : Part) : Part :=
  if m.route.state ≠ .loading then m.refuse .depot tag .wrongState
  else if !emptyBody body then m.refuse .depot tag .badValue
  else
    match m.loadGap with
    | some gap => m.answer .depot tag .incomplete (.incomplete gap)
    | none => (m.countMembers.fillClasses.moveRoute .ready).answer .depot tag .ok .none

/-- Every route table emptied; PASS, views, masks, dock status, marker and batch counter are left (R19, R38,
R143, R164, R176). -/
def Part.emptyRoute (m : Part) : Part :=
  { m with
    route := { m.route with
      clock := 0
      clockRunning := false
      stopsLoaded := 0
      profilesLoaded := 0
      classesLoaded := 0 }
    dir := ⟨[], ⟨0, 0, 0, 0, 0⟩⟩
    profiles := []
    tamper := ⟨[], [], false, m.tamper.pass⟩
    stops := ⟨[], Vector.replicate 4 ⟨none, none⟩, [], []⟩
    intake := m.intake.void
    store := []
    strangers := ⟨[], Vector.replicate 64 ⟨false, false, false⟩, 0⟩
    upload := ⟨none, [], m.upload.counter⟩ }

/-- The responses of a taken CLEAR ROUTE: ENDED for each scan in flight, OK for the request. When the depot's own scan
is ended, which of the two joins its queue first is open (R153, R182; log 12). -/
def Part.answerClear (tag : Byte) (m : Part) : Part :=
  let m1 := m.endScan .cab
  match (m.port .depot).scan with
  | none => m1.answer .depot tag .ok .none
  | some _ =>
    let m2 := { m1 with choices := m1.choices + 1 }
    if Config.endedFirst m.choices then (m2.endScan .depot).answer .depot tag .ok .none
    else (m2.answer .depot tag .ok .none).endScan .depot

/-- The route states in which CLEAR ROUTE needs the DISCARD option (R37 test 2). -/
def needsDiscard : RouteState → Bool
  | .running => true
  | .returned => true
  | .uploading => true
  | _ => false

/-- CLEAR ROUTE (R37, R38, R202). -/
def serveClearRoute (tag : Byte) (body : List Byte) (m : Part) : Part :=
  if m.route.state = .empty then m.refuse .depot tag .wrongState
  else
    match discardOf body with
    | none => m.refuse .depot tag .badValue
    | some discard =>
      if !discard && needsDiscard m.route.state then m.refuse .depot tag .wrongState
      else (m.emptyRoute.moveRoute .empty).answerClear tag

/-- The route state BEGIN UPLOAD leads to: DONE when the order holds no item (R35). -/
def Part.uploadState (m : Part) : RouteState :=
  if m.upload.items.isEmpty then .done else .uploading

/-- BEGIN UPLOAD (R35, R158). -/
def serveBeginUpload (tag : Byte) (body : List Byte) (m : Part) : Part :=
  if m.route.state ≠ .returned then m.refuse .depot tag .wrongState
  else if !emptyBody body then m.refuse .depot tag .badValue
  else
    (m.formOrder.moveRoute m.formOrder.uploadState).answer .depot tag .ok
      (.routeState m.formOrder.uploadState)

/-- START ROUTE (R29). -/
def serveStartRoute (tag : Byte) (body : List Byte) (m : Part) : Part :=
  if m.route.state ≠ .ready then m.refuse .cab tag .wrongState
  else if !emptyBody body then m.refuse .cab tag .badValue
  else
    Part.answer .cab tag .ok .none
      (Part.moveRoute .running
        { m with route := { m.route with clock := 0, clockRunning := true } })

/-- The route-end effects of every block (R33, R95, R127). -/
def Part.endRoute (m : Part) : Part :=
  Part.reportAll
    { m with
      intake := m.intake.void
      stops := m.stops.endRoute
      dir := m.dir.giveUp }

/-- END ROUTE (R32, R33). -/
def serveEndRoute (tag : Byte) (body : List Byte) (m : Part) : Part :=
  if m.route.state ≠ .running then m.refuse .cab tag .wrongState
  else if m.held then m.refuse .cab tag .stalled
  else if !emptyBody body then m.refuse .cab tag .badValue
  else (m.endRoute.moveRoute .returned).answer .cab tag .ok .none

end Sys2Proof.Machine
end

