-- ==== Sys2Proof/Machine/Requests.lean ====
section
/-! DEFINITION. What the remaining requests do when their frame arrives: stops and the sweep list (06), alerts and tamper fields
(05), upload batches (09), reads and queries (01, 07, 08, 10). Each tests in its entry's order and answers. -/

namespace Sys2Proof.Machine

/-! Stops and the sweep list -/

/-- OPEN STOP (R112). -/
def serveOpenStop (tag : Byte) (body : List Byte) (m : Part) : Part :=
  if m.route.state ≠ .running then m.refuse .cab tag .wrongState
  else if m.held then m.refuse .cab tag .stalled
  else
    match stopOf body with
    | none => m.refuse .cab tag .badValue
    | some n =>
      match m.stop n with
      | none => m.refuse .cab tag .notFound
      | some r =>
        if r.state ≠ .pending then m.refuse .cab tag .wrongState
        else
          match m.stops.freeSlot with
          | none => m.refuse .cab tag .noSlot
          | some i =>
            (m.onStops (Stops.openIn i m.route.clock n)).answer .cab tag .ok
              (.opened i m.route.clock)

/-- A taken CLOSE STOP with its effective mode, and its response (R113, R114, R116). -/
def Part.takeClose (tag : Byte) (r : Stop) (mode : CloseMode) (m : Part) : Part :=
  match mode with
  | .linger =>
    (m.onStops (Stops.startLinger r)).answer .cab tag .ok
      (.closed .lingering 0 0 m.stops.sweep.length)
  | _ =>
    let c := m.closeStop r (mode == .drop)
    c.part.answer .cab tag .ok (.closed .closed c.carried c.missed c.part.stops.sweep.length)

/-- CLOSE STOP (R113). -/
def serveCloseStop (tag : Byte) (body : List Byte) (m : Part) : Part :=
  if m.route.state ≠ .running then m.refuse .cab tag .wrongState
  else if m.held then m.refuse .cab tag .stalled
  else
    match closeStopOf body with
    | none => m.refuse .cab tag .badValue
    | some (n, override) =>
      match m.stop n with
      | none => m.refuse .cab tag .notFound
      | some r =>
        if r.state = .pending ∨ r.state = .closed then m.refuse .cab tag .wrongState
        else m.takeClose tag r (effectiveMode r override)

/-- READ STOP (R125). -/
def serveReadStop (tag : Byte) (body : List Byte) (m : Part) : Part :=
  match stopOf body with
  | none => m.refuse .cab tag .badValue
  | some n =>
    match m.stop n with
    | none => m.refuse .cab tag .notFound
    | some r =>
      m.answer .cab tag .ok (.stop r (m.stops.remaining r) (m.stops.lead == some r.number))

/-- The member at the head of the sweep list becomes MISSED and leaves the list (R12, R122). -/
def Part.skipHead (e : SweepEntry) (rest : List SweepEntry) (m : Part) : Part :=
  let m1 := m.onStops (fun u => { u with sweep := rest })
  match m.dir.lookup e.key with
  | none => m1
  | some (position, _) => m1.setReadState position .missed

/-- SKIP SWEEP (R122). -/
def serveSkipSweep (tag : Byte) (body : List Byte) (m : Part) : Part :=
  if m.route.state ≠ .running then m.refuse .cab tag .wrongState
  else if m.held then m.refuse .cab tag .stalled
  else if !emptyBody body then m.refuse .cab tag .badValue
  else
    match m.stops.sweep with
    | [] => m.refuse .cab tag .empty
    | e :: rest => (m.skipHead e rest).answer .cab tag .ok (.skipped e rest.length)

/-- READ SWEEP (R123). -/
def serveReadSweep (tag : Byte) (body : List Byte) (m : Part) : Part :=
  if !emptyBody body then m.refuse .cab tag .badValue
  else
    m.answer .cab tag .ok
      (.sweep m.stops.sweep.length (m.stops.sweep.take Config.readEntries))

/-! Alerts, PASS and tamper fields -/

/-- ACKNOWLEDGE ALERT (R98). -/
def serveAcknowledgeAlert (tag : Byte) (body : List Byte) (m : Part) : Part :=
  if !emptyBody body then m.refuse .cab tag .badValue
  else
    let rest := m.tamper.alerts.tail
    let stalled := stalledAfter m.tamper rest
    Part.answer .cab tag (if m.tamper.alerts.isEmpty then .empty else .ok)
      (.acknowledged m.tamper.alerts.head? stalled rest.length)
      { m with tamper := { m.tamper with alerts := rest, stalled := stalled } }

/-- READ ALERT (R101). -/
def serveReadAlert (tag : Byte) (body : List Byte) (m : Part) : Part :=
  match startPlaceOf body with
  | none => m.refuse .cab tag .badValue
  | some place =>
    m.answer .cab tag .ok
      (.alerts m.tamper.alerts.length m.tamper.stalled m.tamper.pass
        ((m.tamper.alerts.drop place).take Config.readEntries))

/-- SET PASS (R100). -/
def serveSetPass (tag : Byte) (body : List Byte) (m : Part) : Part :=
  match passOf body with
  | none => m.refuse .cab tag .badValue
  | some on =>
    Part.answer .cab tag .ok (.pass on m.tamper.stalled)
      { m with tamper := { m.tamper with pass := on } }

/-- CLEAR TAMPER (R102). -/
def serveClearTamper (tag : Byte) (body : List Byte) (m : Part) : Part :=
  if m.route.state = .empty ∨ m.route.state = .loading then m.refuse .depot tag .wrongState
  else
    match clearTamperOf body with
    | none => m.refuse .depot tag .badValue
    | some (key, classes) =>
      match m.dir.lookup key with
      | none => m.refuse .depot tag .notFound
      | some (position, r) =>
        (m.onMember position (Member.cleared classes)).answer .depot tag .ok
          (.tamperFields (r.cleared classes).tamper (r.cleared classes).latched
            (r.cleared classes).watch (r.cleared classes).deferred)

/-! Upload batches -/

/-- NEXT BATCH (R165, R166). -/
def serveNextBatch (tag : Byte) (body : List Byte) (m : Part) : Part :=
  if m.route.state ≠ .uploading then m.refuse .depot tag .wrongState
  else if !emptyBody body then m.refuse .depot tag .badValue
  else if Config.batchPlaces ≤ m.upload.batches.length then
    m.answer .depot tag .windowFull (.windowFull m.upload.times)
  else if m.freshItems.isEmpty then
    m.answer .depot tag .nothing (.nothing (m.countItems .batched) m.upload.times)
  else
    let numbers := m.freshItems.take Config.batchItems
    let m1 := m.formBatch m.upload.newNumber numbers
    m1.answer .depot tag .ok (.batch m.upload.newNumber (m1.batchContents numbers))

/-- The route becomes DONE when every item of the order is CONFIRMED (R36, R168). -/
def Part.finishUpload (m : Part) : Part :=
  if m.allConfirmed then m.moveRoute .done else m

/-- CONFIRM BATCH (R168, R170). -/
def serveConfirmBatch (tag : Byte) (body : List Byte) (m : Part) : Part :=
  if m.route.state ≠ .uploading then m.refuse .depot tag .wrongState
  else
    match batchNumberOf body with
    | none => m.refuse .depot tag .badValue
    | some n =>
      match m.upload.batch n with
      | none => m.answer .depot tag .stale (.stale n)
      | some b =>
        let m1 := (m.confirmItems b).finishUpload
        m1.answer .depot tag .ok
          (.confirmed n b.items.length (m1.countItems .confirmed) m1.allConfirmed m1.route.state)

/-- REJECT BATCH (R169, R170). -/
def serveRejectBatch (tag : Byte) (body : List Byte) (m : Part) : Part :=
  if m.route.state ≠ .uploading then m.refuse .depot tag .wrongState
  else
    match batchNumberOf body with
    | none => m.refuse .depot tag .badValue
    | some n =>
      match m.upload.batch n with
      | none => m.answer .depot tag .stale (.stale n)
      | some b =>
        ((m.returnBatch b).setShared evBatchReturned).answer .depot tag .ok
          (.rejected n b.items.length)

/-! Requests of both ports -/

/-- READ MEMBER (R16). -/
def serveReadMember (p : HostPort) (tag : Byte) (body : List Byte) (m : Part) : Part :=
  match readMemberOf body with
  | none => m.refuse p tag .badValue
  | some key =>
    match m.dir.lookup key with
    | none => m.refuse p tag .notFound
    | some (position, r) => m.answer p tag .ok (.member position r)

/-- READ STRANGERS (R139). -/
def serveReadStrangers (p : HostPort) (tag : Byte) (body : List Byte) (m : Part) : Part :=
  match startPositionOf body with
  | none => m.refuse p tag .badValue
  | some start =>
    m.answer p tag .ok
      (.strangers m.strangers.count (m.strangers.read start) (nextPosition (m.strangers.read start)))

/-- QUERY MEMBERS (R146 to R148). -/
def serveQueryMembers (p : HostPort) (tag : Byte) (body : List Byte) (m : Part) : Part :=
  if m.route.state = .empty then m.refuse p tag .wrongState
  else if m.queryBusy p then m.refuse p tag .busy
  else
    match queryOf body with
    | none => m.refuse p tag .badValue
    | some (selection, start) =>
      if selection.vacuous then m.answer p tag .ok (.found [] Config.directoryPlaces)
      else m.setScan p (some ⟨tag, selection, start, []⟩)

/-- CLEAR EVENTS (R189). -/
def serveClearEvents (p : HostPort) (tag : Byte) (body : List Byte) (m : Part) : Part :=
  match eventsOf p body with
  | none => m.refuse p tag .badValue
  | some e =>
    let m1 := m.clearEvents p e
    m1.answer p tag .ok (.events (m1.view p) (m1.port p).mask)

/-- SET MASK (R190). -/
def serveSetMask (p : HostPort) (tag : Byte) (body : List Byte) (m : Part) : Part :=
  match eventsOf p body with
  | none => m.refuse p tag .badValue
  | some e =>
    (m.onPort p (fun q => { q with mask := e })).answer p tag .ok (.events (m.view p) e)

/-- The figures of READ STATE for a port (R193). -/
def Part.report (m : Part) (p : HostPort) : StateReport :=
  { routeState := m.route.state
    clock := m.route.clock
    stopsLoaded := m.route.stopsLoaded
    profilesLoaded := m.route.profilesLoaded
    classesLoaded := m.route.classesLoaded
    counts := m.dir.counts
    intakeCount := m.intake.queue.length
    evaluating := m.intake.eval.isSome
    records := m.store.length
    sweepCount := m.stops.sweep.length
    slotStops := m.stops.slots.toList.map Slot.stop
    leadStop := m.stops.lead
    stopsPending := m.stops.inState .pending
    stopsOpen := m.stops.inState .opened
    stopsLinger := m.stops.inState .lingering
    stopsClosed := m.stops.inState .closed
    alertCount := m.tamper.alerts.length
    stalled := m.tamper.stalled
    pass := m.tamper.pass
    strangerCount := m.strangers.count
    scanInFlight := (m.port p).scan.isSome
    order := m.upload.order.map (fun o =>
      ⟨o.length, m.countItems .fresh, m.countItems .batched, m.countItems .confirmed⟩)
    batches := m.upload.batches.map (fun b => ⟨b.number, b.items.length, b.timer.left⟩)
    batchCounter := m.upload.counter
    dock := m.ports.dock
    view := m.view p
    mask := (m.port p).mask
    alertLine := m.alertLine p }

/-- READ STATE (R193). -/
def serveReadState (p : HostPort) (tag : Byte) (body : List Byte) (m : Part) : Part :=
  if !emptyBody body then m.refuse p tag .badValue
  else m.answer p tag .ok (.state (m.report p))

end Sys2Proof.Machine
end

