-- ==== Sys2Proof/Machine/Frames.lean ====
section
/-! DEFINITION. The port controllers: a complete frame's judging, its holding, frame assembly byte by byte, silence, overruns
and the transmit side (10.1, 10.2). -/

namespace Sys2Proof.Machine

/-- Passes a request to its owner (R180 test 3). -/
def serve (r : Request) (p : HostPort) (tag : Byte) (body : List Byte) (m : Part) : Part :=
  match r with
  | .beginLoad => serveBeginLoad tag body m
  | .loadStop => serveLoadStop tag body m
  | .loadMember => serveLoadMember tag body m
  | .loadProfile => serveLoadProfile tag body m
  | .loadClass => serveLoadClass tag body m
  | .finishLoad => serveFinishLoad tag body m
  | .clearRoute => serveClearRoute tag body m
  | .beginUpload => serveBeginUpload tag body m
  | .nextBatch => serveNextBatch tag body m
  | .confirmBatch => serveConfirmBatch tag body m
  | .rejectBatch => serveRejectBatch tag body m
  | .clearTamper => serveClearTamper tag body m
  | .startRoute => serveStartRoute tag body m
  | .endRoute => serveEndRoute tag body m
  | .openStop => serveOpenStop tag body m
  | .closeStop => serveCloseStop tag body m
  | .readStop => serveReadStop tag body m
  | .skipSweep => serveSkipSweep tag body m
  | .readSweep => serveReadSweep tag body m
  | .acknowledgeAlert => serveAcknowledgeAlert tag body m
  | .readAlert => serveReadAlert tag body m
  | .setPass => serveSetPass tag body m
  | .readMember => serveReadMember p tag body m
  | .readStrangers => serveReadStrangers p tag body m
  | .queryMembers => serveQueryMembers p tag body m
  | .clearEvents => serveClearEvents p tag body m
  | .setMask => serveSetMask p tag body m
  | .readState => serveReadState p tag body m

/-- A malformed frame or a failed check: BADFRAME with the frame's tag, and the port's LINK_FAULT (R180). -/
def serveBadFrame (p : HostPort) (f : RxFrame) (m : Part) : Part :=
  (m.setLocal p evLinkFault).refuse p f.tag .badFrame

/-- A code that is no request of this port: BAD_VALUE (R180). -/
def serveUnknownCode (p : HostPort) (tag : Byte) (m : Part) : Part := m.refuse p tag .badValue

/-- Judges a complete frame on the cab or depot port (R180). -/
def serveHost (p : HostPort) (f : RxFrame) (m : Part) : Part :=
  match f with
  | .malformed _ => serveBadFrame p f m
  | .byLength code tag body _ =>
    if f.checkHolds then
      match requestOf p code with
      | some r => serve r p tag body m
      | none => serveUnknownCode p tag m
    else serveBadFrame p f m

/-- A frame's arrival: the event in which its port controller judges it (R179). -/
def judge (l : Line) (f : RxFrame) (m : Part) : Part :=
  match l with
  | .radio => serveRadio f m
  | .cab => serveHost .cab f m
  | .depot => serveHost .depot f m

/-- A frame that has ended arrives when the output queue has room, and is held otherwise (R182, R183). -/
def arrive (l : Line) (f : RxFrame) (m : Part) : Part :=
  if m.hasRoom l then judge l f m else m.onLink l (fun k => { k with held := some f })

/-- The port of a line whose overruns set LINK_FAULT; none for the radio port (R183). -/
def faultPort : Line → Option HostPort
  | .radio => none
  | .cab => some .cab
  | .depot => some .depot

/-- The first discarded byte of an overrun (R183). -/
def startOverrun (l : Line) (m : Part) : Part :=
  let m1 := m.onLink l (fun k => { k with rx := .overrun })
  match faultPort l with
  | none => m1
  | some p => m1.setLocal p evLinkFault

/-- Writes a port's frame assembly. -/
def Part.assemble (l : Line) (a : Assembly) (m : Part) : Part :=
  m.onLink l (fun k => { k with rx := a })

/-- A frame's bytes once its length has been counted out: code, tag, body, check (R178). -/
def frameOf (bytes : List Byte) : RxFrame :=
  .byLength (byteAt bytes 2) (byteAt bytes 3) ((bytes.drop 4).take (u16 bytes 0 - 2))
    (BitVec.ofNat 16 (u16 bytes (u16 bytes 0 + 2)))

/-- A byte joins the frame under assembly: it may settle an out-of-range length, or end the frame by
its length (R179). -/
def collect (l : Line) (bytes : List Byte) (m : Part) : Part :=
  if bytes.length < 2 then m.assemble l (.collecting bytes)
  else if lengthOutOfRange (u16 bytes 0) then m.assemble l (.badLength bytes)
  else if bytes.length < u16 bytes 0 + 4 then m.assemble l (.collecting bytes)
  else arrive l (frameOf bytes) (m.assemble l (.collecting []))

/-- A byte arrives on a receive line (R179, R183): discarded while the line is not taken, or during an
overrun, or after an out-of-range length; the start of an overrun while a frame is held; otherwise a byte of the frame. -/
def receiveByte (l : Line) (m : Part) (b : Byte) : Part :=
  if m.listening l then
    match (m.link l).rx with
    | .overrun => m
    | .badLength _ => m
    | .collecting bytes =>
      if (m.link l).held.isSome then startOverrun l m else collect l (bytes ++ [b]) m
  else m

/-- Bytes arrive one after another. -/
def receiveBytes (l : Line) (bytes : List Byte) (m : Part) : Part := bytes.foldl (receiveByte l) m

/-- A receive line has been silent for 1 millisecond (R179, R183): a frame under assembly, or one with an
out-of-range length, ends malformed; an overrun's discarding ends; between frames nothing happens. -/
def silence (l : Line) (m : Part) : Part :=
  if m.listening l then
    match (m.link l).rx with
    | .overrun => m.assemble l (.collecting [])
    | .badLength bytes => arrive l (.malformed bytes) (m.assemble l (.collecting []))
    | .collecting [] => m
    | .collecting (b :: rest) => arrive l (.malformed (b :: rest)) (m.assemble l (.collecting []))
  else m

/-- The rest of a frame on the line: its bytes, then the silence that ends it when it is malformed. -/
def receiveFrame (l : Line) (f : RxFrame) (m : Part) : Part :=
  match f with
  | .byLength .. => receiveBytes l f.bytes m
  | .malformed bytes => silence l (receiveBytes l bytes m)

/-- A whole frame comes in on a line (log 1). Where the line is taken, stands between frames, and the frame is one
that assembly can hand over, it ends here: it is served at once, or held when the output queue has no
room. Anywhere else its bytes meet the line as R179 and R183 give. -/
def frameEvent (l : Line) (f : RxFrame) (served : Part → Part) (m : Part) : Part :=
  if m.listening l && m.betweenFrames l && f.fits then
    if m.hasRoom l then served m else m.onLink l (fun k => { k with held := some f })
  else receiveFrame l f m

/-- A sound request frame comes in on a cab or depot port, for the meaning of its own row. -/
def requestEvent (p : HostPort) (r : Request) (tag : Byte) (body : List Byte)
    (served : Part → Part) (m : Part) : Part :=
  frameEvent (portLine p) (.sound (requestCode r) tag body) served m

/-- The held frame, if any, arrives when the output queue has room again (R182). -/
def releaseHeld (l : Line) (m : Part) : Part :=
  match (m.link l).held with
  | none => m
  | some f =>
    if m.hasRoom l then judge l f (m.onLink l (fun k => { k with held := none })) else m

/-- The last byte of the head response has been sent: it leaves the queue, and a held frame may arrive (R182). -/
def transmitted (l : Line) (m : Part) : Part :=
  match (m.link l).out with
  | [] => m
  | r :: rest =>
    releaseHeld l (m.onLink l (fun k => { k with out := rest, sent := responseBytes r }))

end Sys2Proof.Machine
end

