-- ==== Sys2Proof/Machine/AlertCommands.lean ====
section
/-! DEFINITION. The meanings of the commands of alerts, PASS and tamper fields (05_tamper_classes_and_alerts.md). -/

namespace Sys2Proof.Machine

/-- CLEAR_TAMPER (R102): removes classes from a member's tamper fields. -/
def execClearTamper (tag : Byte) (body : List Byte) (s : State) : Host.Outcome State Fault Refusal :=
  act (requestEvent .depot .clearTamper tag body (serveClearTamper tag body)) s

/-- ACKNOWLEDGE_ALERT (R98): removes the head of the alert queue. -/
def execAcknowledgeAlert (tag : Byte) (body : List Byte) (s : State) : Host.Outcome State Fault Refusal :=
  act (requestEvent .cab .acknowledgeAlert tag body (serveAcknowledgeAlert tag body)) s

/-- READ_ALERT (R101): reads the alert queue. -/
def execReadAlert (tag : Byte) (body : List Byte) (s : State) : Host.Outcome State Fault Refusal :=
  act (requestEvent .cab .readAlert tag body (serveReadAlert tag body)) s

/-- SET_PASS (R100): switches PASS. -/
def execSetPass (tag : Byte) (body : List Byte) (s : State) : Host.Outcome State Fault Refusal :=
  act (requestEvent .cab .setPass tag body (serveSetPass tag body)) s

end Sys2Proof.Machine
end

