-- ==== Sys2Proof/Machine/PortCommands.lean ====
section
/-! DEFINITION. The meanings of the commands of frames that fail, receive lines and transmit lines (10.1, 10.2). -/

namespace Sys2Proof.Machine

/-- BADFRAME (R180): a frame that is malformed or fails its check ends on the cab or depot port. -/
def execBadFrame (port : HostPort) (frame : RxFrame) (s : State) : Host.Outcome State Fault Refusal :=
  act (frameEvent (portLine port) frame (serveHost port frame)) s

/-- UNKNOWN_CODE (R180): a sound frame whose code is no request of the port ends on it. -/
def execUnknownCode (port : HostPort) (code tag : Byte) (body : List Byte) (s : State) : Host.Outcome State Fault Refusal :=
  act (frameEvent (portLine port) (.sound code tag body) (serveHost port (.sound code tag body))) s

/-- RECEIVE_SILENCE (R179): a receive line has been silent for 1 millisecond. -/
def execReceiveSilence (line : Line) (s : State) : Host.Outcome State Fault Refusal :=
  act (silence line) s

/-- OVERRUN (R183): a byte arrives on a receive line; while a frame is held it starts an overrun, and otherwise it is
a byte of the frame under assembly (R179; log 5). -/
def execOverrun (line : Line) (byte : Byte) (s : State) : Host.Outcome State Fault Refusal :=
  act (fun m => receiveByte line m byte) s

/-- TRANSMIT_COMPLETION (R182): the last byte of the head response has been sent. -/
def execTransmitCompletion (line : Line) (s : State) : Host.Outcome State Fault Refusal :=
  act (whileAlive (transmitted line)) s

end Sys2Proof.Machine
end

