-- ==== Sys2Proof/Machine/RadioCommands.lean ====
section
/-! DEFINITION. The meanings of the commands of the radio port and the intake engine (03_telegram_intake.md). -/

namespace Sys2Proof.Machine

/-- TELEGRAM (R42): a frame with the TELEGRAM code ends by its length on the radio port. -/
def execTelegram (tag : Byte) (body : List Byte) (check : Word16) (s : State) : Host.Outcome State Fault Refusal :=
  act (frameEvent .radio (.byLength telegramCode tag body check)
    (serveRadio (.byLength telegramCode tag body check))) s

/-- RADIO_UNKNOWN_CODE (R43): a frame with another code ends by its length on the radio port. -/
def execRadioUnknownCode (code tag : Byte) (body : List Byte) (check : Word16)
    (s : State) : Host.Outcome State Fault Refusal :=
  act (frameEvent .radio (.byLength code tag body check) (serveRadio (.byLength code tag body check))) s

/-- TELEGRAM_COMPLETION (R48): the evaluation in flight ends; with none in flight there is none to end. -/
def execTelegramCompletion (s : State) : Host.Outcome State Fault Refusal :=
  act (whileAlive (fun m =>
    match m.intake.eval with
    | none => m
    | some e => m.completeTelegram e)) s

end Sys2Proof.Machine
end

