-- ==== Sys2Proof/Machine/ReadCommands.lean ====
section
/-! DEFINITION. The meanings of the commands of the requests of both ports and the scan's reach (01, 07, 08, 10). -/

namespace Sys2Proof.Machine

/-- READ_MEMBER (R16): reads one member record. -/
def execReadMember (port : HostPort) (tag : Byte) (body : List Byte) (s : State) :
    Host.Outcome State Fault Refusal :=
  act (requestEvent port .readMember tag body (serveReadMember port tag body)) s

/-- READ_STRANGERS (R139): reads up to 8 stranger entries. -/
def execReadStrangers (port : HostPort) (tag : Byte) (body : List Byte) (s : State) :
    Host.Outcome State Fault Refusal :=
  act (requestEvent port .readStrangers tag body (serveReadStrangers port tag body)) s

/-- QUERY_MEMBERS (R146): puts a pattern to the directory. -/
def execQueryMembers (port : HostPort) (tag : Byte) (body : List Byte) (s : State) :
    Host.Outcome State Fault Refusal :=
  act (requestEvent port .queryMembers tag body (serveQueryMembers port tag body)) s

/-- SCAN_REACH (R148): the port's scan reaches its next position; with no scan in flight there is none to reach. -/
def execScanReach (port : HostPort) (s : State) : Host.Outcome State Fault Refusal :=
  act (whileAlive (fun m =>
    match (m.port port).scan with
    | none => m
    | some c => m.reachScan port c)) s

/-- CLEAR_EVENTS (R189): clears events of the port's view. -/
def execClearEvents (port : HostPort) (tag : Byte) (body : List Byte) (s : State) :
    Host.Outcome State Fault Refusal :=
  act (requestEvent port .clearEvents tag body (serveClearEvents port tag body)) s

/-- SET_MASK (R190): replaces the port's mask. -/
def execSetMask (port : HostPort) (tag : Byte) (body : List Byte) (s : State) :
    Host.Outcome State Fault Refusal :=
  act (requestEvent port .setMask tag body (serveSetMask port tag body)) s

/-- READ_STATE (R193): reads the part's state. -/
def execReadState (port : HostPort) (tag : Byte) (body : List Byte) (s : State) :
    Host.Outcome State Fault Refusal :=
  act (requestEvent port .readState tag body (serveReadState port tag body)) s

end Sys2Proof.Machine
end

