-- ==== Sys2Proof/Machine/RestartCommands.lean ====
section
/-! DEFINITION. The meanings of the commands of lines, restarts and time (10.4, 10.7, R30). -/

namespace Sys2Proof.Machine

/-- DOCK_LINE_RISING (R184): the dock line rises. -/
def execDockLineRising (s : State) : Host.Outcome State Fault Refusal :=
  act Part.dock s

/-- DOCK_LINE_FALLING (R184): the dock line falls. -/
def execDockLineFalling (s : State) : Host.Outcome State Fault Refusal :=
  act Part.undock s

/-- CAB_PORT_RESET (R198): the cab port reset line is asserted. -/
def execCabPortReset (s : State) : Host.Outcome State Fault Refusal :=
  act Part.resetCab s

/-- DEPOT_PORT_RESET (R199): the depot port reset line is asserted. -/
def execDepotPortReset (s : State) : Host.Outcome State Fault Refusal :=
  act Part.resetDepot s

/-- POWER_UP (R194): the supply comes up. -/
def execPowerUp (memoryKept : Bool) (s : State) : Host.Outcome State Fault Refusal :=
  act (Part.powerUp memoryKept) s

/-- POWER_LOSS (R196): the supply falls. -/
def execPowerLoss (s : State) : Host.Outcome State Fault Refusal :=
  act Part.powerLoss s

/-- RESET (R197): the RESET line is asserted. -/
def execReset (s : State) : Host.Outcome State Fault Refusal :=
  act Part.assertReset s

/-- RESET_RELEASE (R197): the RESET line is released. -/
def execResetRelease (s : State) : Host.Outcome State Fault Refusal :=
  act Part.releaseReset s

/-- END_OF_SECOND (R30): a second ends. -/
def execEndOfSecond (s : State) : Host.Outcome State Fault Refusal :=
  act (whileAlive Part.endSecond) s

/-- CAB_PORT_RESET_RELEASE (R198): the cab port reset line is released. -/
def execCabPortResetRelease (s : State) : Host.Outcome State Fault Refusal :=
  act (Part.releasePort .cab) s

/-- DEPOT_PORT_RESET_RELEASE (R199): the depot port reset line is released. -/
def execDepotPortResetRelease (s : State) : Host.Outcome State Fault Refusal :=
  act (Part.releasePort .depot) s

end Sys2Proof.Machine
end

