-- ==== Sys2Proof/Machine/RouteCommands.lean ====
section
/-! DEFINITION. The meanings of the commands of loading and the route's life (01, 02, 04, 05, 06, 09). -/

namespace Sys2Proof.Machine

/-- BEGIN_LOAD (R22): opens loading. -/
def execBeginLoad (tag : Byte) (body : List Byte) (s : State) : Host.Outcome State Fault Refusal :=
  act (requestEvent .depot .beginLoad tag body (serveBeginLoad tag body)) s

/-- LOAD_STOP (R23): adds one stop record. -/
def execLoadStop (tag : Byte) (body : List Byte) (s : State) : Host.Outcome State Fault Refusal :=
  act (requestEvent .depot .loadStop tag body (serveLoadStop tag body)) s

/-- LOAD_MEMBER (R8): adds one member. -/
def execLoadMember (tag : Byte) (body : List Byte) (s : State) : Host.Outcome State Fault Refusal :=
  act (requestEvent .depot .loadMember tag body (serveLoadMember tag body)) s

/-- LOAD_PROFILE (R64): loads one profile. -/
def execLoadProfile (tag : Byte) (body : List Byte) (s : State) : Host.Outcome State Fault Refusal :=
  act (requestEvent .depot .loadProfile tag body (serveLoadProfile tag body)) s

/-- LOAD_CLASS (R84): loads one class record. -/
def execLoadClass (tag : Byte) (body : List Byte) (s : State) : Host.Outcome State Fault Refusal :=
  act (requestEvent .depot .loadClass tag body (serveLoadClass tag body)) s

/-- FINISH_LOAD (R27): checks the route book and closes loading. -/
def execFinishLoad (tag : Byte) (body : List Byte) (s : State) : Host.Outcome State Fault Refusal :=
  act (requestEvent .depot .finishLoad tag body (serveFinishLoad tag body)) s

/-- CLEAR_ROUTE (R37): empties the route. -/
def execClearRoute (tag : Byte) (body : List Byte) (s : State) : Host.Outcome State Fault Refusal :=
  act (requestEvent .depot .clearRoute tag body (serveClearRoute tag body)) s

/-- BEGIN_UPLOAD (R35): forms the upload order. -/
def execBeginUpload (tag : Byte) (body : List Byte) (s : State) : Host.Outcome State Fault Refusal :=
  act (requestEvent .depot .beginUpload tag body (serveBeginUpload tag body)) s

/-- START_ROUTE (R29): begins the route. -/
def execStartRoute (tag : Byte) (body : List Byte) (s : State) : Host.Outcome State Fault Refusal :=
  act (requestEvent .cab .startRoute tag body (serveStartRoute tag body)) s

/-- END_ROUTE (R32): ends the driving of the route. -/
def execEndRoute (tag : Byte) (body : List Byte) (s : State) : Host.Outcome State Fault Refusal :=
  act (requestEvent .cab .endRoute tag body (serveEndRoute tag body)) s

end Sys2Proof.Machine
end

