-- ==== Sys2Proof/Machine/StopCommands.lean ====
section
/-! DEFINITION. The meanings of the commands of stops, slots and the sweep list (06_stops_slots_and_the_sweep_list.md). -/

namespace Sys2Proof.Machine

/-- OPEN_STOP (R112): makes a PENDING stop OPEN. -/
def execOpenStop (tag : Byte) (body : List Byte) (s : State) : Host.Outcome State Fault Refusal :=
  act (requestEvent .cab .openStop tag body (serveOpenStop tag body)) s

/-- CLOSE_STOP (R113): closes a stop or starts its linger. -/
def execCloseStop (tag : Byte) (body : List Byte) (s : State) : Host.Outcome State Fault Refusal :=
  act (requestEvent .cab .closeStop tag body (serveCloseStop tag body)) s

/-- LINGER_EXPIRY (R118): a stop whose linger timer reaches 0 is closed as CARRY. -/
def execLingerExpiry (slot : Fin 4) (s : State) : Host.Outcome State Fault Refusal :=
  act (whileAlive (Part.expireLinger slot)) s

/-- READ_STOP (R125): reads one stop record. -/
def execReadStop (tag : Byte) (body : List Byte) (s : State) : Host.Outcome State Fault Refusal :=
  act (requestEvent .cab .readStop tag body (serveReadStop tag body)) s

/-- SKIP_SWEEP (R122): gives up the member at the head of the sweep list. -/
def execSkipSweep (tag : Byte) (body : List Byte) (s : State) : Host.Outcome State Fault Refusal :=
  act (requestEvent .cab .skipSweep tag body (serveSkipSweep tag body)) s

/-- READ_SWEEP (R123): reads the head of the sweep list. -/
def execReadSweep (tag : Byte) (body : List Byte) (s : State) : Host.Outcome State Fault Refusal :=
  act (requestEvent .cab .readSweep tag body (serveReadSweep tag body)) s

end Sys2Proof.Machine
end

