-- ==== Sys2Proof/Machine/UploadCommands.lean ====
section
/-! DEFINITION. The meanings of the commands of upload batches (09_depot_upload.md). -/

namespace Sys2Proof.Machine

/-- NEXT_BATCH (R165): asks for the next batch. -/
def execNextBatch (tag : Byte) (body : List Byte) (s : State) : Host.Outcome State Fault Refusal :=
  act (requestEvent .depot .nextBatch tag body (serveNextBatch tag body)) s

/-- CONFIRM_BATCH (R168): confirms an outstanding batch. -/
def execConfirmBatch (tag : Byte) (body : List Byte) (s : State) : Host.Outcome State Fault Refusal :=
  act (requestEvent .depot .confirmBatch tag body (serveConfirmBatch tag body)) s

/-- REJECT_BATCH (R169): returns an outstanding batch. -/
def execRejectBatch (tag : Byte) (body : List Byte) (s : State) : Host.Outcome State Fault Refusal :=
  act (requestEvent .depot .rejectBatch tag body (serveRejectBatch tag body)) s

/-- CONFIRM_TIMER_EXPIRY (R167): a batch whose confirm timer reaches 0 is returned. -/
def execConfirmTimerExpiry (number : Nat) (s : State) : Host.Outcome State Fault Refusal :=
  act (whileAlive (Part.expireBatch number)) s

end Sys2Proof.Machine
end

