-- ==== Sys2Proof/Machine/Dispatch.lean ====
section
/-! DEFINITION. One arm for each command: a direct call of its meaning. -/

namespace Sys2Proof.Machine

def exec (i : Instr) (s : State) : Host.Outcome State Fault Refusal :=
  match i with
  | .telegram tag body check => Sys2Proof.Machine.execTelegram tag body check s
  | .radioUnknownCode code tag body check => Sys2Proof.Machine.execRadioUnknownCode code tag body check s
  | .telegramCompletion => Sys2Proof.Machine.execTelegramCompletion s
  | .beginLoad tag body => Sys2Proof.Machine.execBeginLoad tag body s
  | .loadStop tag body => Sys2Proof.Machine.execLoadStop tag body s
  | .loadMember tag body => Sys2Proof.Machine.execLoadMember tag body s
  | .loadProfile tag body => Sys2Proof.Machine.execLoadProfile tag body s
  | .loadClass tag body => Sys2Proof.Machine.execLoadClass tag body s
  | .finishLoad tag body => Sys2Proof.Machine.execFinishLoad tag body s
  | .clearRoute tag body => Sys2Proof.Machine.execClearRoute tag body s
  | .beginUpload tag body => Sys2Proof.Machine.execBeginUpload tag body s
  | .nextBatch tag body => Sys2Proof.Machine.execNextBatch tag body s
  | .confirmBatch tag body => Sys2Proof.Machine.execConfirmBatch tag body s
  | .rejectBatch tag body => Sys2Proof.Machine.execRejectBatch tag body s
  | .confirmTimerExpiry number => Sys2Proof.Machine.execConfirmTimerExpiry number s
  | .clearTamper tag body => Sys2Proof.Machine.execClearTamper tag body s
  | .startRoute tag body => Sys2Proof.Machine.execStartRoute tag body s
  | .endRoute tag body => Sys2Proof.Machine.execEndRoute tag body s
  | .openStop tag body => Sys2Proof.Machine.execOpenStop tag body s
  | .closeStop tag body => Sys2Proof.Machine.execCloseStop tag body s
  | .lingerExpiry slot => Sys2Proof.Machine.execLingerExpiry slot s
  | .readStop tag body => Sys2Proof.Machine.execReadStop tag body s
  | .skipSweep tag body => Sys2Proof.Machine.execSkipSweep tag body s
  | .readSweep tag body => Sys2Proof.Machine.execReadSweep tag body s
  | .acknowledgeAlert tag body => Sys2Proof.Machine.execAcknowledgeAlert tag body s
  | .readAlert tag body => Sys2Proof.Machine.execReadAlert tag body s
  | .setPass tag body => Sys2Proof.Machine.execSetPass tag body s
  | .readMember port tag body => Sys2Proof.Machine.execReadMember port tag body s
  | .readStrangers port tag body => Sys2Proof.Machine.execReadStrangers port tag body s
  | .queryMembers port tag body => Sys2Proof.Machine.execQueryMembers port tag body s
  | .scanReach port => Sys2Proof.Machine.execScanReach port s
  | .clearEvents port tag body => Sys2Proof.Machine.execClearEvents port tag body s
  | .setMask port tag body => Sys2Proof.Machine.execSetMask port tag body s
  | .readState port tag body => Sys2Proof.Machine.execReadState port tag body s
  | .badFrame port frame => Sys2Proof.Machine.execBadFrame port frame s
  | .unknownCode port code tag body => Sys2Proof.Machine.execUnknownCode port code tag body s
  | .receiveSilence line => Sys2Proof.Machine.execReceiveSilence line s
  | .overrun line byte => Sys2Proof.Machine.execOverrun line byte s
  | .transmitCompletion line => Sys2Proof.Machine.execTransmitCompletion line s
  | .dockLineRising => Sys2Proof.Machine.execDockLineRising s
  | .dockLineFalling => Sys2Proof.Machine.execDockLineFalling s
  | .cabPortReset => Sys2Proof.Machine.execCabPortReset s
  | .depotPortReset => Sys2Proof.Machine.execDepotPortReset s
  | .powerUp memoryKept => Sys2Proof.Machine.execPowerUp memoryKept s
  | .powerLoss => Sys2Proof.Machine.execPowerLoss s
  | .reset => Sys2Proof.Machine.execReset s
  | .resetRelease => Sys2Proof.Machine.execResetRelease s
  | .endOfSecond => Sys2Proof.Machine.execEndOfSecond s
  | .cabPortResetRelease => Sys2Proof.Machine.execCabPortResetRelease s
  | .depotPortResetRelease => Sys2Proof.Machine.execDepotPortResetRelease s

end Sys2Proof.Machine
end

