-- ==== Sys2Proof/WellFormed.lean ====
section
/-! DEFINITION. Which commands are events the part can meet: what a frame can hold, and which row its code belongs to. -/

namespace Sys2Proof

/-- A request's body fits a frame's length field (R178). -/
def bodyFits (body : List Byte) : Bool := body.length + 2 ≤ Config.greatestLength

/-- The command is an event of its own row: its frame fits the envelope (R178), an unknown code is
unknown on its port (R180) or the radio port (R43), a bad frame is malformed or fails its check (R180), a batch
number is one that can be given (R163). -/
def Instr.wellFormed : Instr → Bool
  | .telegram _ body _ => bodyFits body
  | .radioUnknownCode code _ body _ => bodyFits body && code != telegramCode
  | .telegramCompletion => true
  | .beginLoad _ body => bodyFits body
  | .loadStop _ body => bodyFits body
  | .loadMember _ body => bodyFits body
  | .loadProfile _ body => bodyFits body
  | .loadClass _ body => bodyFits body
  | .finishLoad _ body => bodyFits body
  | .clearRoute _ body => bodyFits body
  | .beginUpload _ body => bodyFits body
  | .nextBatch _ body => bodyFits body
  | .confirmBatch _ body => bodyFits body
  | .rejectBatch _ body => bodyFits body
  | .confirmTimerExpiry number => decide (1 ≤ number) && decide (number ≤ Config.lastBatchNumber)
  | .clearTamper _ body => bodyFits body
  | .startRoute _ body => bodyFits body
  | .endRoute _ body => bodyFits body
  | .openStop _ body => bodyFits body
  | .closeStop _ body => bodyFits body
  | .lingerExpiry _ => true
  | .readStop _ body => bodyFits body
  | .skipSweep _ body => bodyFits body
  | .readSweep _ body => bodyFits body
  | .acknowledgeAlert _ body => bodyFits body
  | .readAlert _ body => bodyFits body
  | .setPass _ body => bodyFits body
  | .readMember _ _ body => bodyFits body
  | .readStrangers _ _ body => bodyFits body
  | .queryMembers _ _ body => bodyFits body
  | .scanReach _ => true
  | .clearEvents _ _ body => bodyFits body
  | .setMask _ _ body => bodyFits body
  | .readState _ _ body => bodyFits body
  | .badFrame _ frame => frame.fits && !frame.checkHolds
  | .unknownCode p code _ body => bodyFits body && (requestOf p code).isNone
  | .receiveSilence _ => true
  | .overrun _ _ => true
  | .transmitCompletion _ => true
  | .dockLineRising => true
  | .dockLineFalling => true
  | .cabPortReset => true
  | .depotPortReset => true
  | .powerUp _ => true
  | .powerLoss => true
  | .reset => true
  | .resetRelease => true
  | .endOfSecond => true
  | .cabPortResetRelease => true
  | .depotPortResetRelease => true

end Sys2Proof
end

