-- ==== Sys2Proof/Safety.lean ====
section
/-! DEFINITION. The terms claims about the part are made in: what a command makes of a state, when a port is ready, and the
conditions that hold of every state a run can reach. -/

namespace Sys2Proof.Machine

/-- The command answers a next state that differs from `s` in its part alone, which is `m`. -/
abbrev Becomes (c : Instr) (s : State) (m : Part) : Prop := exec c s = .next { s with part := m }

/-- A frame that ends now on this line is judged at once: the line is taken (R184, R197 to R199),
assembly stands between frames, none is held, and the output queue has room (R182). -/
abbrev Ready (s : State) (l : Line) : Prop := s.part.accepts l = true

/-- Every event set and every mask names only events of its place: shared events in the shared set, a port's local events
in its local set, events of its view in its mask (R186, R189, R190). -/
def Part.EventsLegal (m : Part) : Prop :=
  without m.ports.shared sharedEvents = 0 ∧
  ∀ p : HostPort, without (m.port p).locals (localEvents p) = 0 ∧
    without (m.port p).mask (viewEvents p) = 0

/-- Outside RUNNING the intake queue is empty and a telegram in evaluation is void (R60). -/
def Part.IntakeFrozen (m : Part) : Prop :=
  m.route.state ≠ .running →
    m.intake.queue = [] ∧ ∀ e, m.intake.eval = some e → e.void = true

/-- Every queue keeps within its places: intake 16 (R44), alerts 32 (R96), sweep list 1,024 (R120), outstanding
batches 2 (R163), radio answers 4 (R183), responses to requests 8, and on each host port a scan in flight or one
response of a scan, not both (R146, R182); a scan in flight has fewer than 16 matches and a next position below 8,192, where it
would have completed (R144, R149). -/
def Part.WithinPlaces (m : Part) : Prop :=
  m.intake.queue.length ≤ 16 ∧ m.tamper.alerts.length ≤ 32 ∧ m.stops.sweep.length ≤ 1024 ∧
  m.upload.batches.length ≤ 2 ∧ m.ports.radio.waiting ≤ 4 ∧
  ∀ p : HostPort, (m.port p).link.waiting ≤ 8 ∧
    (m.port p).link.out.countP (fun r => r.scan) + (if (m.port p).scan.isSome then 1 else 0) ≤ 1 ∧
    ∀ c, (m.port p).scan = some c → c.found.length < 16 ∧ c.next < 8192

/-- A keyed table stands in its canonical form, its keys below a bound. -/
abbrev Table.Within {α : Type} (bound : Nat) (t : Table α) : Prop := Table.Canonical t ∧ ∀ e ∈ t, e.1 < bound

/-- Every keyed table stands in its canonical form, so that equal tables are equal data, with its keys within its places: directory (R3),
profiles (R63), classes (R83), stop records (R23), strangers (R130), and every member's watch map, whose counts are 0 to 14 (R6, R88) as
the clean counts of 1 to 15 (R83) make them. -/
def Part.TablesCanonical (m : Part) : Prop :=
  Table.Within 8192 m.dir.ways ∧ Table.Within 16 m.profiles ∧ Table.Within 4 m.tamper.classes ∧
  Table.Within 512 m.stops.records ∧ Table.Within 256 m.strangers.entries ∧
  (∀ e ∈ m.tamper.classes, 1 ≤ e.2.clean ∧ e.2.clean ≤ 15) ∧
  ∀ e ∈ m.dir.ways, Table.Within 4 e.2.watch ∧ ∀ w ∈ e.2.watch, w.2 ≤ 14

/-- Valid ways whose member is in a read state. -/
def Directory.inState (d : Directory) (r : ReadState) : Nat :=
  d.ways.countP (fun e => e.2.readState == r)

/-- The directory's five counts are the numbers of its members (R17), its table canonical. -/
def Part.CountsTrue (m : Part) : Prop :=
  Table.Canonical m.dir.ways ∧
  m.dir.counts = ⟨m.dir.ways.length, m.dir.inState .unread, m.dir.inState .read,
    m.dir.inState .carried, m.dir.inState .missed⟩

/-- The loading record is true (R22, R24, R25, R28, R85): its stop count is the number of stop records, whose route positions are all different and
below it; the marks are those of the profiles and, until FINISH LOAD, of the classes that are loaded, and from then on every class holds a
record; an EMPTY route holds nothing, with its clock at 0 and stopped. -/
def Part.LoadingTrue (m : Part) : Prop :=
  m.route.stopsLoaded = m.stops.records.length ∧
  (m.stops.records.map (fun e => e.2.position)).Nodup ∧
  (∀ e ∈ m.stops.records, e.2.position < m.stops.records.length) ∧
  (∀ n, n < 16 → m.route.profilesLoaded.getLsbD n = (Table.find m.profiles n).isSome) ∧
  (m.route.state = .empty ∨ m.route.state = .loading →
    ∀ n, n < 4 → m.route.classesLoaded.getLsbD n = (Table.find m.tamper.classes n).isSome) ∧
  (m.route.state ≠ .empty → m.route.state ≠ .loading →
    ∀ n, n < 4 → (Table.find m.tamper.classes n).isSome = true) ∧
  (m.route.state = .empty → m.dir.ways = [] ∧ m.stops.records = [] ∧ m.profiles = [] ∧ m.tamper.classes = [] ∧
    m.store = [] ∧ m.strangers.entries = [] ∧ m.stops.sweep = [] ∧ m.tamper.alerts = [] ∧
    m.route.clock = 0 ∧ m.route.clockRunning = false)

/-- Every member's tamper state is the one its latched set and watch map give (R89). -/
def Part.TamperStatesTrue (m : Part) : Prop :=
  ∀ e ∈ m.dir.ways, e.2.tamper = tamperStateOf e.2.latched e.2.watch

/-- Every member stands in its key's set (R2, R3), and the directory holds no key twice (R8). -/
def Part.KeysTrue (m : Part) : Prop :=
  Table.Canonical m.dir.ways ∧ (∀ e ∈ m.dir.ways, e.1 / 4 = e.2.key.number.toNat % 2048) ∧
  (m.dir.ways.map (fun e => e.2.key)).Nodup

/-- Every stranger stands in its key's set (R130), no key is held twice or by a member as well (R132), the valid count is the number of entries
(R141), and until START ROUTE there is none (R139). -/
def Part.StrangersTrue (m : Part) : Prop :=
  Table.Canonical m.strangers.entries ∧
  (∀ e ∈ m.strangers.entries, e.1 / 4 = e.2.key.number.toNat % 64) ∧
  (m.strangers.entries.map (fun e => e.2.key)).Nodup ∧
  m.strangers.count = m.strangers.entries.length ∧
  (∀ e ∈ m.strangers.entries, ∀ d ∈ m.dir.ways, d.2.key ≠ e.2.key) ∧
  (m.route.state = .empty ∨ m.route.state = .loading ∨ m.route.state = .ready → m.strangers.entries = [])

/-- A member is on the sweep list exactly when it is CARRIED, and the list holds no member twice (R120). -/
def Part.SweepTrue (m : Part) : Prop :=
  (m.stops.sweep.map SweepEntry.key).Nodup ∧
  (∀ x ∈ m.stops.sweep, ∃ e ∈ m.dir.ways, e.2.key = x.key ∧ e.2.stop = x.stop ∧ e.2.readState = .carried) ∧
  ∀ e ∈ m.dir.ways, e.2.readState = .carried → ∃ x ∈ m.stops.sweep, x.key = e.2.key

/-- A record's index is its place; a member has a record exactly when it is READ, and the record is its own; the store holds
one record for each READ member (R7, R54, R62). -/
def Part.StoreTrue (m : Part) : Prop :=
  (∀ (i : Nat) (r : Record), m.store[i]? = some r → r.index = i) ∧
  (∀ e ∈ m.dir.ways, e.2.readState = .read ↔ e.2.record.isSome = true) ∧
  (∀ e ∈ m.dir.ways, ∀ i, e.2.record = some i → ∃ r : Record, m.store[i]? = some r ∧ r.key = e.2.key) ∧
  m.store.length = m.dir.inState .read

/-- Stops, slots and the opening order agree: a stop holds a slot exactly while it is OPEN or LINGER, a slot names the stop
that holds it, its timer runs only while that stop is in LINGER, with 1 to 255 seconds, and the opening order lists the OPEN stops once
each, at most 4 (R108, R110, R111, R116). -/
def Part.SlotsTrue (m : Part) : Prop :=
  Table.Canonical m.stops.records ∧
  (∀ e ∈ m.stops.records, e.2.number = e.1 ∧ e.2.lingerTime ≤ 255 ∧
    (e.2.slot.isSome = true ↔ e.2.state = .opened ∨ e.2.state = .lingering) ∧
    ∀ i : Fin 4, e.2.slot = some i → m.stops.slots[i].stop = some e.1 ∧
      (m.stops.slots[i].timer.isSome = true ↔ e.2.state = .lingering)) ∧
  (∀ (i : Fin 4) (n : Nat), m.stops.slots[i].stop = some n →
    ∃ r, m.stop n = some r ∧ r.slot = some i) ∧
  (∀ i : Fin 4, m.stops.slots[i].stop = none → m.stops.slots[i].timer = none) ∧
  (∀ (i : Fin 4) (t : Timer), m.stops.slots[i].timer = some t → 1 ≤ t.left ∧ t.left ≤ 255) ∧
  m.stops.order.Nodup ∧ m.stops.order.length ≤ 4 ∧
  ∀ n, n ∈ m.stops.order ↔ ∃ r, m.stop n = some r ∧ r.state = .opened

/-- The outstanding batches: at most two, each with a number of 1 to 65,535 that no other holds, 1 to 64 item numbers in ascending
order, and 1 to 20 seconds left; the counter within its range (R163, R164). -/
def Part.BatchesTrue (m : Part) : Prop :=
  m.upload.batches.length ≤ 2 ∧ m.upload.counter ≤ 65535 ∧
  (m.upload.batches.map Batch.number).Nodup ∧
  ∀ b ∈ m.upload.batches, 1 ≤ b.number ∧ b.number ≤ 65535 ∧ 1 ≤ b.items.length ∧
    b.items.length ≤ 64 ∧ b.items.Pairwise (· < ·) ∧ 1 ≤ b.timer.left ∧ b.timer.left ≤ 20

/-- The upload order (R158, R162, R163, R176): it stands exactly in UPLOADING and DONE, and batches in UPLOADING alone; before it every record and
stranger is FRESH; each of its reading and stranger items names a record of its own; the BATCHED items are exactly those of the outstanding
batches, none in two; a reading record has its batch's number while BATCHED and none while FRESH; in UPLOADING some item is not
CONFIRMED, and in DONE every item is. -/
def Part.OrderTrue (m : Part) : Prop :=
  (m.upload.order.isSome = true ↔ m.route.state = .uploading ∨ m.route.state = .done) ∧
  (m.route.state ≠ .uploading → m.upload.batches = []) ∧
  (m.upload.order = none → (∀ r ∈ m.store, r.upload = .fresh ∧ r.batch = none) ∧
    ∀ e ∈ m.strangers.entries, e.2.upload = .fresh) ∧
  (∀ (i j : Nat) (x : UploadItem), (∀ k u, x ≠ .miss k u) →
    m.upload.items[i]? = some x → m.upload.items[j]? = some x → i = j) ∧
  (∀ i, UploadItem.reading i ∈ m.upload.items → i < m.store.length) ∧
  (∀ p, UploadItem.stranger p ∈ m.upload.items → Table.find m.strangers.entries p ≠ none) ∧
  (m.upload.batches.flatMap Batch.items).Nodup ∧
  (∀ b ∈ m.upload.batches, ∀ n ∈ b.items, n < m.upload.items.length) ∧
  (∀ (n : Nat) (x : UploadItem), m.upload.items[n]? = some x →
    (m.itemState x = .batched ↔ ∃ b ∈ m.upload.batches, n ∈ b.items)) ∧
  (∀ (n i : Nat) (r : Record), m.upload.items[n]? = some (.reading i) → m.store[i]? = some r →
    (r.upload = .fresh → r.batch = none) ∧ ∀ b ∈ m.upload.batches, n ∈ b.items → r.batch = some b.number) ∧
  (m.route.state = .uploading → ∃ x ∈ m.upload.items, m.itemState x ≠ .confirmed) ∧
  (m.route.state = .done → ∀ x ∈ m.upload.items, m.itemState x = .confirmed)

/-- The items with these numbers have gone to an upload state, each reading record among them with this batch number, and nothing else has
changed, the batch table and the counter left aside (R162, R166). -/
def Part.ItemsMoved (m m1 : Part) (numbers : List Nat) (u : UploadState) (batch : Option Nat) : Prop :=
  m1.route = m.route ∧ m1.dir = m.dir ∧ m1.profiles = m.profiles ∧ m1.tamper = m.tamper ∧ m1.stops = m.stops ∧
  m1.intake = m.intake ∧ m1.ports = m.ports ∧ m1.power = m.power ∧ m1.choices = m.choices ∧
  m1.upload.order.isSome = m.upload.order.isSome ∧
  (∀ j : Nat, m1.store[j]? = m.store[j]?.map (fun r =>
    if ∃ n ∈ numbers, m.upload.items[n]? = some (.reading j) then { r with upload := u, batch := batch } else r)) ∧
  m1.strangers.trees = m.strangers.trees ∧ m1.strangers.count = m.strangers.count ∧
  (∀ p : Nat, Table.find m1.strangers.entries p = (Table.find m.strangers.entries p).map (fun x =>
    if ∃ n ∈ numbers, m.upload.items[n]? = some (.stranger p) then { x with upload := u } else x)) ∧
  ∀ n : Nat, m1.upload.items[n]? = m.upload.items[n]?.map (fun i =>
    match i with
    | .miss key state => .miss key (if n ∈ numbers then u else state)
    | other => other)

/-- What a warm restart makes of a part whose power and RESET line stand as given (R197, R61, R100, R107, R128, R155, R174, R192): volatile state cleared; the stops in LINGER closed
as CARRY one after another, in ascending stop number, so that none is in LINGER afterwards; every outstanding batch's items FRESH again; everything else kept. -/
def Part.WarmRestarted (m m1 : Part) (power : Power) : Prop :=
  let lingering := m.stops.records.filter (fun e => e.2.state == .lingering)
  let closed := lingering.foldl (fun n e => (n.closeStop e.2 false).part) m
  (m.SlotsTrue → lingering.Pairwise (fun a b => a.2.number < b.2.number) ∧
    (∀ e ∈ lingering, ∃ r, m1.stop e.2.number = some r ∧ r.state = .closed) ∧
    ∀ e ∈ m1.stops.records, e.2.state ≠ .lingering) ∧
  m1.route = m.route ∧ m1.profiles = m.profiles ∧ m1.intake = ⟨[], none⟩ ∧
  m1.dir = closed.dir ∧ m1.stops = closed.stops ∧ m1.tamper = { closed.tamper with pass := false } ∧
  m1.ports = { radio := m.ports.radio.emptied
               cab := ⟨m.ports.cab.link.emptied, 0, 0, none, m.ports.cab.resetHeld⟩
               depot := ⟨m.ports.depot.link.emptied, 0, 0, none, m.ports.depot.resetHeld⟩
               shared := 0
               dockLine := m.ports.dockLine
               dock := if m.ports.dockLine then .docked else .undocked } ∧
  m1.power = power ∧ m1.choices = m.choices ∧
  m1.upload.batches = [] ∧ m1.upload.counter = m.upload.counter ∧
  ∃ m2 : Part, m.ItemsMoved m2 (m.upload.batches.flatMap Batch.items) .fresh none ∧
    m1.store = m2.store ∧ m1.strangers = m2.strangers ∧ m1.upload.order = m2.upload.order

/-- A part to which these alert entries have been offered one after another (R96, R97): those that fit are queued, the
events of queuing, of loss and of STALLED's beginning are set, and a stall class in any of them sets STALLED. -/
def Part.withAlerts (due : List Alert) (m : Part) : Part :=
  let stall := due.any (fun a => meets a.classes m.tamper.stallClasses)
  { m with
    tamper := { m.tamper with
      alerts := (m.tamper.alerts ++ due).take 32
      stalled := m.tamper.stalled || stall }
    ports := { m.ports with
      shared := m.ports.shared |||
        (if due ≠ [] ∧ m.tamper.alerts.length < 32 then evAlertQueued else 0) |||
        (if 32 < m.tamper.alerts.length + due.length then evAlertOverflow else 0) |||
        (if stall ∧ m.tamper.stalled = false then evStallBegan else 0) } }

/-- The moves of the route state that its requests and completions make (R20). -/
def routeMoves : List (RouteState × RouteState) :=
  [(.empty, .loading), (.loading, .ready), (.ready, .running), (.running, .returned),
    (.returned, .uploading), (.returned, .done), (.uploading, .done), (.loading, .empty),
    (.ready, .empty), (.running, .empty), (.returned, .empty), (.uploading, .empty), (.done, .empty)]

/-! Requests as commands -/

/-- The command of a request on a port. -/
def commandOf (r : Request) (p : HostPort) (tag : Byte) (body : List Byte) : Instr :=
  match r with
  | .beginLoad => .beginLoad tag body
  | .loadStop => .loadStop tag body
  | .loadMember => .loadMember tag body
  | .loadProfile => .loadProfile tag body
  | .loadClass => .loadClass tag body
  | .finishLoad => .finishLoad tag body
  | .clearRoute => .clearRoute tag body
  | .beginUpload => .beginUpload tag body
  | .nextBatch => .nextBatch tag body
  | .confirmBatch => .confirmBatch tag body
  | .rejectBatch => .rejectBatch tag body
  | .clearTamper => .clearTamper tag body
  | .startRoute => .startRoute tag body
  | .endRoute => .endRoute tag body
  | .openStop => .openStop tag body
  | .closeStop => .closeStop tag body
  | .readStop => .readStop tag body
  | .skipSweep => .skipSweep tag body
  | .readSweep => .readSweep tag body
  | .acknowledgeAlert => .acknowledgeAlert tag body
  | .readAlert => .readAlert tag body
  | .setPass => .setPass tag body
  | .readMember => .readMember p tag body
  | .readStrangers => .readStrangers p tag body
  | .queryMembers => .queryMembers p tag body
  | .clearEvents => .clearEvents p tag body
  | .setMask => .setMask p tag body
  | .readState => .readState p tag body

/-- The line and the frame of a command that is a whole frame coming in (log 1); none for the other commands. -/
def frameOfCommand (c : Instr) : Option (Line × RxFrame) :=
  match c with
  | .telegram tag body check => some (.radio, .byLength telegramCode tag body check)
  | .radioUnknownCode code tag body check => some (.radio, .byLength code tag body check)
  | .beginLoad tag body => some (.depot, .sound (requestCode .beginLoad) tag body)
  | .loadStop tag body => some (.depot, .sound (requestCode .loadStop) tag body)
  | .loadMember tag body => some (.depot, .sound (requestCode .loadMember) tag body)
  | .loadProfile tag body => some (.depot, .sound (requestCode .loadProfile) tag body)
  | .loadClass tag body => some (.depot, .sound (requestCode .loadClass) tag body)
  | .finishLoad tag body => some (.depot, .sound (requestCode .finishLoad) tag body)
  | .clearRoute tag body => some (.depot, .sound (requestCode .clearRoute) tag body)
  | .beginUpload tag body => some (.depot, .sound (requestCode .beginUpload) tag body)
  | .nextBatch tag body => some (.depot, .sound (requestCode .nextBatch) tag body)
  | .confirmBatch tag body => some (.depot, .sound (requestCode .confirmBatch) tag body)
  | .rejectBatch tag body => some (.depot, .sound (requestCode .rejectBatch) tag body)
  | .clearTamper tag body => some (.depot, .sound (requestCode .clearTamper) tag body)
  | .startRoute tag body => some (.cab, .sound (requestCode .startRoute) tag body)
  | .endRoute tag body => some (.cab, .sound (requestCode .endRoute) tag body)
  | .openStop tag body => some (.cab, .sound (requestCode .openStop) tag body)
  | .closeStop tag body => some (.cab, .sound (requestCode .closeStop) tag body)
  | .readStop tag body => some (.cab, .sound (requestCode .readStop) tag body)
  | .skipSweep tag body => some (.cab, .sound (requestCode .skipSweep) tag body)
  | .readSweep tag body => some (.cab, .sound (requestCode .readSweep) tag body)
  | .acknowledgeAlert tag body => some (.cab, .sound (requestCode .acknowledgeAlert) tag body)
  | .readAlert tag body => some (.cab, .sound (requestCode .readAlert) tag body)
  | .setPass tag body => some (.cab, .sound (requestCode .setPass) tag body)
  | .readMember p tag body => some (portLine p, .sound (requestCode .readMember) tag body)
  | .readStrangers p tag body => some (portLine p, .sound (requestCode .readStrangers) tag body)
  | .queryMembers p tag body => some (portLine p, .sound (requestCode .queryMembers) tag body)
  | .clearEvents p tag body => some (portLine p, .sound (requestCode .clearEvents) tag body)
  | .setMask p tag body => some (portLine p, .sound (requestCode .setMask) tag body)
  | .readState p tag body => some (portLine p, .sound (requestCode .readState) tag body)
  | .badFrame p f => some (portLine p, f)
  | .unknownCode p code tag body => some (portLine p, .sound code tag body)
  | .telegramCompletion | .confirmTimerExpiry _ | .lingerExpiry _ | .scanReach _ | .receiveSilence _ | .overrun _ _
  | .transmitCompletion _ | .dockLineRising | .dockLineFalling | .cabPortReset | .depotPortReset | .powerUp _
  | .powerLoss | .reset | .resetRelease | .endOfSecond | .cabPortResetRelease | .depotPortResetRelease => none

/-- The command is one event of the part as it stands. Only a frame can be more: one that meets a line inside another frame, or that
is longer than a frame can be, is many bytes, each an event of its own (log 1). -/
def OneEvent (c : Instr) (m : Part) : Prop :=
  ∀ (l : Line) (f : RxFrame), frameOfCommand c = some (l, f) → m.listening l = true →
    m.betweenFrames l = true ∧ f.fits = true

/-- The route states in which a request is taken at all (the table of 2.1; R25, R102, R112, R113, R122, R146, R165, R168);
reads and the cab's alert requests are taken in every one. CLEAR ROUTE with DISCARD is meant. -/
def takenIn (r : Request) (q : RouteState) : Bool :=
  match r with
  | .beginLoad => q == .empty
  | .loadStop | .loadMember | .loadProfile | .loadClass | .finishLoad => q == .loading
  | .startRoute => q == .ready
  | .endRoute | .openStop | .closeStop | .skipSweep => q == .running
  | .beginUpload => q == .returned
  | .nextBatch | .confirmBatch | .rejectBatch => q == .uploading
  | .clearRoute | .queryMembers => q != .empty
  | .clearTamper => q != .empty && q != .loading
  | _ => true

/-- The requests that STALLED holds (R99). -/
def heldRequests : List Request := [.openStop, .closeStop, .skipSweep, .endRoute]

/-- A request's body has its length and its fields are in range (R202, R201). -/
def bodyTaken (r : Request) (p : HostPort) (body : List Byte) : Bool :=
  match r with
  | .beginLoad | .finishLoad | .beginUpload | .nextBatch | .startRoute | .endRoute | .skipSweep
  | .readSweep | .acknowledgeAlert | .readState => body.isEmpty
  | .loadStop => (loadStopOf body).isSome
  | .loadMember => (loadMemberOf body).isSome
  | .loadProfile => (loadProfileOf body).isSome
  | .loadClass => (loadClassOf body).isSome
  | .clearRoute => (discardOf body).isSome
  | .confirmBatch | .rejectBatch => (batchNumberOf body).isSome
  | .clearTamper => (clearTamperOf body).isSome
  | .openStop | .readStop => (stopOf body).isSome
  | .closeStop => (closeStopOf body).isSome
  | .readAlert => (startPlaceOf body).isSome
  | .setPass => (passOf body).isSome
  | .readMember => (readMemberOf body).isSome
  | .readStrangers => (startPositionOf body).isSome
  | .queryMembers => (queryOf body).isSome
  | .clearEvents | .setMask => (eventsOf p body).isSome

/-- What the intake engine holds once an evaluation has ended: it has taken the head of its queue, if there is one (R46). -/
def Intake.afterEnd (k : Intake) : Intake :=
  match k.queue with
  | [] => ⟨[], none⟩
  | q :: rest => ⟨rest, some ⟨q, false⟩⟩

end Sys2Proof.Machine
end

