-- ==== Sys2Proof/Certificates/Slice0/Obligations.lean ====
section
/-! DEFINITION. The statements for the provers, listed in OBLIGATIONS.json. `Becomes c s m` says that the command `c` answers a
next state that differs from `s` in its part alone, which is `m`; an equation of parts says what changes and, of every other
field, that it stays as it was. -/

open Sys2Proof Sys2Proof.Machine

/-! ## The queue of commands, and invariants of every step -/

/-- A step takes the command at the front of the queue and is `exec` of it on the state with the queue's rest; on an empty queue
the block idles (the idling is the model's choice, log 2). Every command goes on to a next state and leaves the queue as it was. -/
def Obligations.StepRunsTheFrontCommand : Prop :=
  (∀ (c : Instr) (m : Part) (rest : List Instr), step ⟨m, c :: rest⟩ = exec c ⟨m, rest⟩) ∧
  (∀ m : Part, step ⟨m, []⟩ = .next ⟨m, []⟩) ∧
  ∀ (c : Instr) (s : State), ∃ m : Part, Becomes c s m

/-- The state after reset meets every invariant stated below, and holds the cold-start values (R194, R195): the route EMPTY with its clock at 0 and stopped, every table of every block
empty, counts and tree bits 0, slots free, STALLED clear, PASS off, the batch counter 0, no scan, no byte in an assembly or an output queue, views and masks empty, alert lines not
asserted, the marker VALID. The levels of the input lines, the supply on, and so the status UNDOCKED, are the model's choice (log 7), and so are
the empty queue of commands and the values of the model's own fields (logs 12, 18). -/
def Obligations.ResetMeetsTheInvariants : Prop :=
  State.reset.part.EventsLegal ∧ State.reset.part.IntakeFrozen ∧ State.reset.part.WithinPlaces ∧
  State.reset.part.TablesCanonical ∧ State.reset.part.CountsTrue ∧ State.reset.part.TamperStatesTrue ∧
  State.reset.part.KeysTrue ∧ State.reset.part.SweepTrue ∧ State.reset.part.StoreTrue ∧
  State.reset.part.SlotsTrue ∧ State.reset.part.BatchesTrue ∧
  State.reset.part.LoadingTrue ∧ State.reset.part.StrangersTrue ∧ State.reset.part.OrderTrue ∧
  State.reset.part.route = ⟨.empty, 0, false, 0, 0, 0⟩ ∧
  State.reset.part.dir = ⟨[], ⟨0, 0, 0, 0, 0⟩⟩ ∧ State.reset.part.tamper = ⟨[], [], false, false⟩ ∧
  State.reset.part.profiles = [] ∧ State.reset.part.store = [] ∧
  State.reset.part.stops = ⟨[], Vector.replicate 4 ⟨none, none⟩, [], []⟩ ∧
  State.reset.part.strangers.entries = [] ∧ State.reset.part.strangers.count = 0 ∧
  (∀ k : Key, State.reset.part.strangers.tree k = ⟨false, false, false⟩) ∧
  (∀ l : Line, State.reset.part.link l = ⟨.collecting [], none, [], []⟩) ∧
  State.reset.part.ports.dockLine = false ∧ State.reset.part.ports.dock = .undocked ∧
  State.reset.part.power = ⟨true, .valid, false, none⟩ ∧ State.reset.part.choices = 0 ∧
  State.reset.part.upload = ⟨none, [], 0⟩ ∧ State.reset.part.intake = ⟨[], none⟩ ∧
  (∀ p : HostPort, State.reset.part.view p = 0 ∧ (State.reset.part.port p).mask = 0 ∧
    State.reset.part.alertLine p = false ∧ (State.reset.part.port p).scan = none ∧
    (State.reset.part.port p).resetHeld = false) ∧
  State.reset.pending = []

/-- Every step keeps the events of every view and mask within their places (R186, R189, R190), and every keyed table in its canonical form with its keys within its
places: directory, profiles, classes, stop records, strangers, and every member's watch map, with counts of 0 to 14 (R3, R6, R23, R63, R83, R88, R130). -/
def Obligations.EventsAndTablesStayInForm : Prop :=
  ∀ s t : State, step s = .next t → (s.part.EventsLegal → t.part.EventsLegal) ∧
    (s.part.TablesCanonical → t.part.TablesCanonical)

/-- Every step keeps the intake frozen outside RUNNING: an empty queue, and a void telegram in evaluation (R60). -/
def Obligations.IntakeStaysFrozen : Prop :=
  ∀ s t : State, s.part.IntakeFrozen → step s = .next t → t.part.IntakeFrozen

/-- Every step keeps the queues within their places: intake queue, alert queue, sweep list, outstanding batches, output queues, and the match list and next position of each
scan in flight (R44, R96, R120, R144, R149, R163, R182, R183); and, with stops and slots in agreement, the opening order within 4 (R110, R111). -/
def Obligations.QueuesStayWithinPlaces : Prop :=
  (∀ s t : State, s.part.WithinPlaces → step s = .next t → t.part.WithinPlaces) ∧
  ∀ s t : State, s.part.SlotsTrue → step s = .next t → t.part.stops.order.length ≤ 4

/-- Every step keeps the directory's five counts the numbers of its members (R17); and the loading record true: the stop count that of the stop records, with route positions all
different and below it; the marks those of the loaded profiles and, until FINISH LOAD, classes; a record in every class from then on; nothing in an EMPTY route (R22, R24, R25, R28, R85). -/
def Obligations.CountsStayTrue : Prop :=
  (∀ s t : State, s.part.CountsTrue → step s = .next t → t.part.CountsTrue) ∧
  ∀ s t : State, s.part.TablesCanonical → s.part.LoadingTrue → step s = .next t → t.part.LoadingTrue

/-- Every step keeps every member's tamper state the one its latched set and watch map give (R89, R102). -/
def Obligations.TamperStatesStayTrue : Prop :=
  ∀ s t : State, s.part.TamperStatesTrue → step s = .next t → t.part.TamperStatesTrue

/-- Every step keeps every member in its key's set, and the directory free of a key held twice (R2, R3, R8); and every stranger in its key's set, no key held twice or by a member as
well, the valid count the number of entries, and the table empty until START ROUTE (R130, R132, R139, R141). -/
def Obligations.KeysStayTrue : Prop :=
  (∀ s t : State, s.part.KeysTrue → step s = .next t → t.part.KeysTrue) ∧
  ∀ s t : State, s.part.KeysTrue → s.part.StrangersTrue → step s = .next t → t.part.StrangersTrue

/-- Every step keeps the sweep list exactly the CARRIED members (R120), and the reading store exactly the READ members'
records, each at its own index (R7, R54, R62). -/
def Obligations.SweepListAndStoreStayTrue : Prop :=
  ∀ s t : State, s.part.KeysTrue → s.part.SweepTrue → s.part.StoreTrue → step s = .next t →
    t.part.SweepTrue ∧ t.part.StoreTrue

/-- Every step keeps stops, slots, linger timers (1 to 255 seconds) and the opening order (at most 4) in agreement (R108, R110, R111, R116). -/
def Obligations.SlotsStayTrue : Prop :=
  ∀ s t : State, s.part.SlotsTrue → step s = .next t → t.part.SlotsTrue

/-- Every step keeps the outstanding batches at most two, under different numbers of 1 to 65,535, with 1 to 64 items each in
ascending item number and 1 to 20 seconds left (R163, R164); and the upload order true: it stands in UPLOADING and DONE alone and batches in UPLOADING alone; the BATCHED items are exactly
those of the outstanding batches, none in two; reading records have their batch's number while BATCHED and none while FRESH; some item is not CONFIRMED in UPLOADING, and none in DONE (R158, R162,
R163, R176). -/
def Obligations.BatchesStayTrue : Prop :=
  (∀ s t : State, s.part.BatchesTrue → step s = .next t → t.part.BatchesTrue) ∧
  ∀ s t : State, s.part.TablesCanonical → s.part.BatchesTrue → s.part.OrderTrue → step s = .next t → t.part.OrderTrue

/-- In one event the route state stays as it is, or makes one move of R20 with ROUTE_CHANGED set (R21), or, by a power-up or a release of RESET, is made empty by
a cold start, without the event (R195). A frame command that meets a line inside another frame is no single event but its bytes (log 1, FrameIsItsBytes, RequestCommandIsItsBytes),
and each byte, the OVERRUN command, is one. -/
def Obligations.RouteStateMovesByItsTableAlone : Prop :=
  ∀ (c : Instr) (s t : State), OneEvent c s.part → exec c s = .next t →
    t.part.route.state = s.part.route.state ∨
    ((s.part.route.state, t.part.route.state) ∈ routeMoves ∧
      t.part.ports.shared &&& evRouteChanged = evRouteChanged) ∨
    (((∃ kept, c = .powerUp kept) ∨ c = .resetRelease) ∧ t.part.route = ⟨.empty, 0, false, 0, 0, 0⟩)

/-- In one event a READ member stays READ, in its way, with its record index, key, prior reading and stop, or the directory is emptied (R13, R54, R7). A frame command that meets a line inside another frame is
no single event but its bytes (log 1, FrameIsItsBytes, RequestCommandIsItsBytes), and each byte, the OVERRUN command, is one. -/
def Obligations.ReadMemberStaysRead : Prop :=
  ∀ (c : Instr) (s t : State), OneEvent c s.part → s.part.KeysTrue → s.part.SweepTrue → s.part.StoreTrue →
    exec c s = .next t →
    t.part.dir.ways = [] ∨
    ∀ p r, Table.find s.part.dir.ways p = some r → r.readState = .read →
      ∃ r' : Member, Table.find t.part.dir.ways p = some r' ∧ r'.readState = .read ∧ r'.record = r.record ∧
        r'.key = r.key ∧ r'.prior = r.prior ∧ r'.stop = r.stop

/-! ## Frames and ports -/

/-- A frame that comes in whole is judged exactly as its bytes, received one after another, and the silence that ends it if
it is malformed, make it be judged or held, or lost (R178, R179, R182, R183). It vindicates the model's choice that a frame is one command (log 1). -/
def Obligations.FrameIsItsBytes : Prop :=
  ∀ (l : Line) (f : RxFrame) (m : Part), frameEvent l f (judge l f) m = receiveFrame l f m

/-- A request's command is the arrival of the bytes of its frame, each as R179 and R183 give, in every state of the port: the
frame of R178 with the request's code of R202 and a true check. It vindicates the model's choice that a request is one command (log 1). -/
def Obligations.RequestCommandIsItsBytes : Prop :=
  ∀ (p : HostPort) (r : Request) (tag : Byte) (body : List Byte) (s : State), r ∈ portRequests p →
    Becomes (commandOf r p tag body) s
      (receiveBytes (portLine p)
        (frameBytes (requestCode r) tag body (frameCheck (requestCode r) tag body)) s.part)

/-- An answer joins the tail of its own port's output queue and changes nothing else. Every request but QUERY MEMBERS and CLEAR ROUTE gets exactly one response, on its own port, with its own tag (R181, R182). -/
def Obligations.OneResponseForOneRequest : Prop :=
  (∀ (m : Part) (p : HostPort) (tag : Byte) (code : ReplyCode) (body : Reply),
    m.answer p tag code body = m.onPort p (fun q =>
      { q with link := { q.link with out := q.link.out ++ [⟨code, tag, body, false⟩] } })) ∧
  (∀ (m : Part) (tag : Byte) (code : ReplyCode),
    m.answerRadio tag code = { m with ports := { m.ports with
      radio := { m.ports.radio with out := m.ports.radio.out ++ [⟨code, tag, .none, false⟩] } } }) ∧
  ∀ (r : Request) (p : HostPort) (tag : Byte) (body : List Byte) (m : Part),
    r ∈ portRequests p → r ≠ .queryMembers → r ≠ .clearRoute →
    ∃ code reply, ((serve r p tag body m).port p).link.out =
        (m.port p).link.out ++ [⟨code, tag, reply, false⟩] ∧
      ((serve r p tag body m).port p).link.rx = (m.port p).link.rx ∧
      ((serve r p tag body m).port p).scan = (m.port p).scan ∧
      ∀ q, q ≠ p → (serve r p tag body m).port q = m.port q

/-- BADFRAME and UNKNOWN_CODE (R180): a frame that is malformed or fails its check is answered BADFRAME with its tag, or tag 0, and
sets the port's own LINK_FAULT; a sound frame with a code that is no request of the port is answered BAD_VALUE; neither has another effect.
Each port knows exactly its own requests by their codes of R202, given here with the TELEGRAM code and the response codes; a response is sent as a frame of R178: length, code, tag, body, check. -/
def Obligations.BadFramesAndUnknownCodes : Prop :=
  ((portRequests .depot).map (fun r => (r, requestCode r)) =
      [(.beginLoad, 0x10), (.loadStop, 0x11), (.loadMember, 0x12), (.loadProfile, 0x13), (.loadClass, 0x14),
        (.finishLoad, 0x15), (.clearRoute, 0x16), (.beginUpload, 0x17), (.nextBatch, 0x18), (.confirmBatch, 0x19),
        (.rejectBatch, 0x1A), (.clearTamper, 0x1B), (.readMember, 0x30), (.readStrangers, 0x31),
        (.queryMembers, 0x32), (.clearEvents, 0x33), (.setMask, 0x34), (.readState, 0x35)] ∧
    (portRequests .cab).map (fun r => (r, requestCode r)) =
      [(.startRoute, 0x20), (.endRoute, 0x21), (.openStop, 0x22), (.closeStop, 0x23), (.readStop, 0x24),
        (.skipSweep, 0x25), (.readSweep, 0x26), (.acknowledgeAlert, 0x27), (.readAlert, 0x28), (.setPass, 0x29),
        (.readMember, 0x30), (.readStrangers, 0x31), (.queryMembers, 0x32), (.clearEvents, 0x33), (.setMask, 0x34),
        (.readState, 0x35)] ∧
    telegramCode = 0x01 ∧
    [ReplyCode.ok, .taken, .full, .badCheck, .idle, .badFrame, .wrongState, .stalled, .busy, .noSlot, .notFound,
      .duplicate, .setFull, .badValue, .incomplete, .stale, .windowFull, .nothing, .empty, .ended].map replyCode =
      [0x80, 0x81, 0x82, 0x83, 0x84, 0x85, 0x86, 0x87, 0x88, 0x89, 0x8A, 0x8B, 0x8C, 0x8D, 0x8E, 0x8F, 0x90, 0x91,
        0x92, 0x93]) ∧
  (∀ r : Response, ∃ sent : List Byte,
    sent = be16 ((bodyBytes r.body).length + 2) ++ [replyCode r.code, r.tag] ++ bodyBytes r.body ∧
    responseBytes r = sent ++ be16 ((sent.map BitVec.toNat).sum % 65536)) ∧
  (∀ (p : HostPort) (r : Request), requestOf p (requestCode r) = if r ∈ portRequests p then some r else none) ∧
  (∀ (p : HostPort) (code : Byte) (r : Request), requestOf p code = some r → code = requestCode r) ∧
  ∀ (p : HostPort) (s : State), Ready s (portLine p) →
    (∀ f : RxFrame, f.fits = true → f.checkHolds = false →
      Becomes (.badFrame p f) s ((s.part.setLocal p evLinkFault).answer p f.tag .badFrame .none)) ∧
    ∀ (code tag : Byte) (body : List Byte), body.length + 2 ≤ 64 → requestOf p code = none →
      Becomes (.unknownCode p code tag body) s (s.part.answer p tag .badValue .none)

/-- RECEIVE_SILENCE (R179, R183, R180, R43): between frames it has no effect; it ends an overrun's discarding; it ends a short frame, or one
with an out-of-range length, which is then answered BADFRAME with LINK_FAULT on the cab or depot port and BADCHECK without an event on the radio
port, or held while the output queue is full. A line that is not taken is left as it is. That the ended frame arrives in the event of the silence, and that silence between
frames has no effect, the model infers (log 6). -/
def Obligations.SilenceEndsFrames : Prop :=
  ∀ (l : Line) (s : State),
    (s.part.listening l = false → Becomes (.receiveSilence l) s s.part) ∧
    (s.part.listening l = true →
      ((s.part.link l).rx = .collecting [] → Becomes (.receiveSilence l) s s.part) ∧
      ((s.part.link l).rx = .overrun →
        Becomes (.receiveSilence l) s (s.part.onLink l (fun k => { k with rx := .collecting [] }))) ∧
      ∀ bytes : List Byte, bytes ≠ [] →
        ((s.part.link l).rx = .collecting bytes ∨ (s.part.link l).rx = .badLength bytes) →
        (s.part.hasRoom l = false → Becomes (.receiveSilence l) s
          (s.part.onLink l (fun k => { k with rx := .collecting [], held := some (.malformed bytes) }))) ∧
        (s.part.hasRoom l = true → l = .radio → Becomes (.receiveSilence l) s
          ((s.part.onLink l (fun k => { k with rx := .collecting [] })).answerRadio
            ((bytes.drop 3).headD 0) .badCheck)) ∧
        ∀ p : HostPort, l = portLine p → s.part.hasRoom l = true → Becomes (.receiveSilence l) s
          ((((s.part.onLink l (fun k => { k with rx := .collecting [] })).setLocal p evLinkFault).answer p
            ((bytes.drop 3).headD 0) .badFrame .none)))

/-- OVERRUN (R183, R179, R184, R197 to R199): a byte on a line that is not taken, in an overrun, or after an out-of-range length is discarded; the
first byte while a frame is held starts an overrun, with LINK_FAULT on the cab and depot ports; a byte that ends no frame joins the frame under assembly. That the command, with no frame held, is such a byte is the model's inference (log 5). -/
def Obligations.BytesWhileAFrameIsHeld : Prop :=
  ∀ (l : Line) (b : Byte) (s : State),
    (s.part.listening l = false → Becomes (.overrun l b) s s.part) ∧
    (s.part.listening l = true →
      ((s.part.link l).rx = .overrun → Becomes (.overrun l b) s s.part) ∧
      (∀ bytes, (s.part.link l).rx = .badLength bytes → Becomes (.overrun l b) s s.part) ∧
      ∀ bytes, (s.part.link l).rx = .collecting bytes →
        (∀ f, (s.part.link l).held = some f → l = .radio →
          Becomes (.overrun l b) s (s.part.onLink l (fun k => { k with rx := .overrun }))) ∧
        (∀ f p, (s.part.link l).held = some f → l = portLine p →
          Becomes (.overrun l b) s
            ((s.part.onLink l (fun k => { k with rx := .overrun })).setLocal p evLinkFault)) ∧
        ((s.part.link l).held = none →
          (bytes = [] → Becomes (.overrun l b) s
            (s.part.onLink l (fun k => { k with rx := .collecting [b] }))) ∧
          (∀ a, bytes = [a] → Becomes (.overrun l b) s
            (s.part.onLink l (fun k => { k with
              rx := (if a.toNat * 256 + b.toNat < 2 ∨ 64 < a.toNat * 256 + b.toNat then .badLength [a, b]
                else .collecting [a, b]) }))) ∧
          ∀ x y rest, bytes = x :: y :: rest → 2 ≤ x.toNat * 256 + y.toNat →
            x.toNat * 256 + y.toNat ≤ 64 → rest.length + 1 < x.toNat * 256 + y.toNat + 2 →
            Becomes (.overrun l b) s
              (s.part.onLink l (fun k => { k with rx := .collecting (bytes ++ [b]) }))))

/-- A frame that ends while 8 responses to requests wait on its port, or 4 answers on the radio port, is held, whatever it is: a request, a bad frame, an unknown code, a TELEGRAM
or another radio frame; nothing else happens (R182, R183; a frame that silence ends is SilenceEndsFrames).
TRANSMIT_COMPLETION (R182): the head response has been sent whole, as the frame of R178, and leaves the queue; a held frame then arrives when a
place is free, and is judged against the state of that moment. With no response to send the command has no effect, and the frame sent is kept in a
field of the model's own: both are the model's choice (logs 4, 18). -/
def Obligations.HeldFramesAndTransmitCompletion : Prop :=
  (∀ s : State,
    (∀ p : HostPort, s.part.listening (portLine p) = true → s.part.betweenFrames (portLine p) = true →
      8 ≤ (s.part.link (portLine p)).waiting →
      let holding := fun f => s.part.onLink (portLine p) (fun k => { k with held := some f })
      (∀ (r : Request) (tag : Byte) (body : List Byte), r ∈ portRequests p → body.length + 2 ≤ 64 →
        Becomes (commandOf r p tag body) s (holding (.sound (requestCode r) tag body))) ∧
      (∀ (code tag : Byte) (body : List Byte), body.length + 2 ≤ 64 →
        Becomes (.unknownCode p code tag body) s (holding (.sound code tag body))) ∧
      ∀ f : RxFrame, f.fits = true → Becomes (.badFrame p f) s (holding f)) ∧
    (s.part.listening .radio = true → s.part.betweenFrames .radio = true → 4 ≤ (s.part.link .radio).waiting →
      let holding := fun f => s.part.onLink .radio (fun k => { k with held := some f })
      ∀ (tag : Byte) (body : List Byte) (check : Word16), body.length + 2 ≤ 64 →
        Becomes (.telegram tag body check) s (holding (.byLength telegramCode tag body check)) ∧
        ∀ code : Byte, Becomes (.radioUnknownCode code tag body check) s (holding (.byLength code tag body check)))) ∧
  ∀ (l : Line) (s : State), s.part.alive = true →
    ((s.part.link l).out = [] → Becomes (.transmitCompletion l) s s.part) ∧
    ∀ (r : Response) (rest : List Response), (s.part.link l).out = r :: rest →
      ((s.part.link l).held = none → Becomes (.transmitCompletion l) s
        (s.part.onLink l (fun k => { k with out := rest, sent := responseBytes r }))) ∧
      ∀ f : RxFrame, (s.part.link l).held = some f →
        let limit := if l = .radio then 4 else 8
        (rest.countP (fun q => !q.scan) < limit → Becomes (.transmitCompletion l) s
          (judge l f (s.part.onLink l (fun k =>
            { k with out := rest, sent := responseBytes r, held := none })))) ∧
        (¬ rest.countP (fun q => !q.scan) < limit → Becomes (.transmitCompletion l) s
          (s.part.onLink l (fun k => { k with out := rest, sent := responseBytes r })))

/-! ## Telegrams -/

/-- RADIO_UNKNOWN_CODE (R43): a frame with another code is answered BADCHECK under its tag, whatever its check. TELEGRAM (R42): the five tests in their order, each with its answer under the frame's tag; TAKEN queues the telegram with the route clock of its
arrival, and a free engine takes the head at once (R46); FULL sets INTAKE_FULL; nothing else changes. -/
def Obligations.RadioFramesAnswered : Prop :=
  (∀ (code tag : Byte) (body : List Byte) (check : Word16) (s : State), Ready s .radio →
    body.length + 2 ≤ 64 → code ≠ telegramCode →
    Becomes (.radioUnknownCode code tag body check) s (s.part.answerRadio tag .badCheck)) ∧
  ∀ (tag : Byte) (body : List Byte) (check : Word16) (s : State), Ready s .radio → body.length + 2 ≤ 64 →
    (check ≠ frameCheck telegramCode tag body ∨ telegramOf body = none →
      Becomes (.telegram tag body check) s (s.part.answerRadio tag .badCheck)) ∧
    ∀ t : Telegram, check = frameCheck telegramCode tag body → telegramOf body = some t →
      (s.part.route.state ≠ .running →
        Becomes (.telegram tag body check) s (s.part.answerRadio tag .idle)) ∧
      (s.part.route.state = .running → 16 ≤ s.part.intake.queue.length →
        Becomes (.telegram tag body check) s ((s.part.setShared evIntakeFull).answerRadio tag .full)) ∧
      (s.part.route.state = .running → s.part.intake.queue.length < 16 →
        (∀ e, s.part.intake.eval = some e → Becomes (.telegram tag body check) s
          (Part.answerRadio tag .taken { s.part with
            intake := ⟨s.part.intake.queue ++ [⟨t, s.part.route.clock⟩], some e⟩ })) ∧
        (s.part.intake.eval = none → ∀ q rest, s.part.intake.queue ++ [⟨t, s.part.route.clock⟩] = q :: rest →
          Becomes (.telegram tag body check) s
            (Part.answerRadio tag .taken { s.part with intake := ⟨rest, some ⟨q, false⟩⟩ })))

/-- TELEGRAM_COMPLETION that drops its telegram (R48, R47): a void telegram, or one that completes outside RUNNING, changes no table; the
engine takes the next head. That the command has no effect with no evaluation in flight is the model's choice (log 4). -/
def Obligations.CompletionDropsTheTelegram : Prop :=
  ∀ s : State, s.part.alive = true →
    (s.part.intake.eval = none → Becomes .telegramCompletion s s.part) ∧
    ∀ e : Evaluation, s.part.intake.eval = some e → (e.void = true ∨ s.part.route.state ≠ .running) →
      Becomes .telegramCompletion s { s.part with intake := s.part.intake.afterEnd }

/-- TELEGRAM_COMPLETION of a stranger's telegram (R49, R133 to R138): the entry of its key is refreshed; or a new entry goes into the lowest invalid
way of its set and the count rises; or it takes the victim's way with STRANGER_EVICTED. The way used is touched, and nothing else of the part changes. -/
def Obligations.CompletionHearsAStranger : Prop :=
  ∀ (s : State) (e : Evaluation), s.part.alive = true → s.part.intake.eval = some e → e.void = false →
    s.part.route.state = .running → s.part.dir.lookup e.queued.telegram.key = none →
    let t := s.part.strangers
    let tel := e.queued.telegram
    let set := tel.key.number.toNat % 64
    let added : Stranger := ⟨tel.key, 1, e.queued.arrival, s.part.stops.order.getLast?, tel.counter, tel.signal, .fresh⟩
    (∀ p old, t.lookup tel.key = some (p, old) → Becomes .telegramCompletion s
      { s.part with
        intake := s.part.intake.afterEnd
        strangers := Strangers.touch { t with entries := Table.modify p (fun x => { x with
            hearings := min (x.hearings + 1) 255
            counter := tel.counter
            signal := if x.signal.toNat < tel.signal.toNat then tel.signal else x.signal }) t.entries }
          tel.key (p % 4) }) ∧
    (t.lookup tel.key = none →
      (∀ way, way < 4 → Table.find t.entries (set * 4 + way) = none →
        (∀ v, v < way → Table.find t.entries (set * 4 + v) ≠ none) → Becomes .telegramCompletion s
        { s.part with
          intake := s.part.intake.afterEnd
          strangers := Strangers.touch { t with
            entries := Table.put (set * 4 + way) added t.entries, count := t.count + 1 } tel.key way }) ∧
      ((∀ way, way < 4 → Table.find t.entries (set * 4 + way) ≠ none) → Becomes .telegramCompletion s
        (Part.setShared evStrangerEvicted { s.part with
          intake := s.part.intake.afterEnd
          strangers := Strangers.touch { t with
            entries := Table.put (set * 4 + (t.tree tel.key).victim) added t.entries } tel.key
              (t.tree tel.key).victim })))

/-- TELEGRAM_COMPLETION, a first hearing (R52, R53, R10): the evaluator's judgement and the tamper outcome; a reading record appended; the member READ
with its index; off the sweep list if it was CARRIED; its stop's read count up by one; nothing else. -/
def Obligations.CompletionFirstHearing : Prop :=
  ∀ (s : State) (e : Evaluation) (p : Nat) (r : Member), s.part.alive = true →
    s.part.intake.eval = some e → e.void = false → s.part.route.state = .running →
    Table.Canonical s.part.dir.ways → s.part.dir.lookup e.queued.telegram.key = some (p, r) → r.readState ≠ .read →
    let tel := e.queued.telegram
    let c := atWidth r.width tel.counter
    let j := judgeFirst r.width (s.part.profile r.profile) r.prior c tel
    let fired := s.part.tamper.fired j.indicators
    let closed := s.part.stopState r.stop == some .closed
    let classes := promptClasses s.part.tamper fired closed
    let alerted := if classes = 0 then s.part else s.part.offerAlert
      ⟨r.key, r.stop, classes, j.indicators &&& s.part.tamper.masks classes, .prompt, s.part.route.clock⟩
    ∃ dir stops, Becomes .telegramCompletion s
      { s.part with
        intake := s.part.intake.afterEnd
        store := s.part.store ++ [
          { index := s.part.store.length, key := r.key, counter := c, time := tel.time,
            firstHeard := e.queued.arrival, leadStop := s.part.stops.order.getLast?, hearings := 1,
            signal := tel.signal, batteryLow := tel.batteryLow, indicators := j.indicators, fired := fired,
            rate := j.rate, ceiling := j.ceiling, upload := .fresh, batch := none }]
        dir := dir
        stops := stops
        tamper := alerted.tamper
        ports := alerted.ports } ∧
      Table.find dir.ways p = some
        { Member.heard s.part.tamper fired closed r with readState := .read, record := some s.part.store.length } ∧
      (∀ n, n ≠ p → Table.find dir.ways n = Table.find s.part.dir.ways n) ∧
      dir.counts = (s.part.dir.counts.lower r.readState).raise .read ∧
      stops.sweep = (if r.readState = .carried then s.part.stops.sweep.filter (fun x => x.key != r.key)
        else s.part.stops.sweep) ∧
      stops.slots = s.part.stops.slots ∧ stops.order = s.part.stops.order ∧
      ∀ n, Table.find stops.records n = if n = r.stop
        then (Table.find s.part.stops.records n).map (fun x => { x with readCount := x.readCount + 1 })
        else Table.find s.part.stops.records n

/-- TELEGRAM_COMPLETION, a later hearing (R55 to R58): hearings saturate at 255, best signal, battery-low; the time and counter tests; indicators and
fired classes gathered; the tamper outcome of this hearing's own set; the member stays READ; nothing else. -/
def Obligations.CompletionLaterHearing : Prop :=
  ∀ (s : State) (e : Evaluation) (p : Nat) (r : Member) (i : Nat) (old : Record), s.part.alive = true →
    s.part.intake.eval = some e → e.void = false → s.part.route.state = .running →
    Table.Canonical s.part.dir.ways → s.part.dir.lookup e.queued.telegram.key = some (p, r) → r.readState = .read →
    r.record = some i → s.part.store[i]? = some old →
    let tel := e.queued.telegram
    let c := atWidth r.width tel.counter
    let test := judgeLater r.width (s.part.profile r.profile) c tel.time ⟨old.counter, old.time⟩
    let inds := test.1 ||| meterFlags tel
    let fired := s.part.tamper.fired inds
    let closed := s.part.stopState r.stop == some .closed
    let classes := promptClasses s.part.tamper fired closed
    let alerted := if classes = 0 then s.part else s.part.offerAlert
      ⟨r.key, r.stop, classes, inds &&& s.part.tamper.masks classes, .prompt, s.part.route.clock⟩
    ∃ dir store, Becomes .telegramCompletion s
      { s.part with
        intake := s.part.intake.afterEnd
        store := store
        dir := dir
        tamper := alerted.tamper
        ports := alerted.ports } ∧
      Table.find dir.ways p = some (Member.heard s.part.tamper fired closed r) ∧
      (∀ n, n ≠ p → Table.find dir.ways n = Table.find s.part.dir.ways n) ∧
      dir.counts = s.part.dir.counts ∧
      store[i]? = some { old with
        hearings := min (old.hearings + 1) 255
        signal := if old.signal.toNat < tel.signal.toNat then tel.signal else old.signal
        batteryLow := old.batteryLow || tel.batteryLow
        counter := if test.2 then c else old.counter
        time := if test.2 then tel.time else old.time
        indicators := old.indicators ||| inds
        fired := old.fired ||| fired } ∧
      ∀ n, n ≠ i → store[n]? = s.part.store[n]?

/-! ## The consumption evaluator -/

/-- Stages 2 and 3 (R70 to R72): the elapsed time, and the delta with its rollover, jitter and backstep cases tested in that order, the wrap
zone held to 32,768 for a HALF member. -/
def Obligations.ElapsedTimeAndDelta : Prop :=
  (∀ t t0 : Word32, elapsed t t0 =
    if t.toNat > t0.toNat then (t.toNat - t0.toNat, 0) else if t = t0 then (0, 0) else (0, indClock)) ∧
  (∀ (w : Width) (p : Profile) (c c0 : Nat),
    let top := if w = .half then 2 ^ 16 else 2 ^ 32
    let zone := if w = .half then min p.zone.toNat 32768 else p.zone.toNat
    delta w p c c0 =
      if c ≥ c0 then (c - c0, 0)
      else if c0 ≥ top - zone ∧ c < zone then (c + top - c0, indWrap)
      else if c0 - c ≤ p.window.toNat then (0, 0)
      else (0, indBackstep)) ∧
  ∀ (w : Width) (p : Profile) (c c0 : Nat), c < modulus w → c0 < modulus w →
    (delta w p c c0).1 ≤ modulus w - 1 ∧ ((delta w p c c0).2 = indWrap → 1 ≤ (delta w p c c0).1)

/-- Stage 5 (R74): the ceiling's three cases, its quotient truncated toward zero, and every ceiling between CeilShort and CeilLong inclusive
for a profile that R64 accepts. -/
def Obligations.CeilingLiesBetweenItsEnds : Prop :=
  ∀ (p : Profile) (e : Nat), p.eshort ≠ 0 → p.eshort.toNat < p.elong.toNat →
    (e ≤ p.eshort.toNat → ceiling p e = p.ceilShort.toNat) ∧
    (p.elong.toNat ≤ e → ceiling p e = p.ceilLong.toNat) ∧
    (p.eshort.toNat < e → e < p.elong.toNat → (ceiling p e : Int) = p.ceilShort.toNat +
      Int.tdiv (((p.ceilLong.toNat : Int) - p.ceilShort.toNat) * ((e : Int) - p.eshort.toNat))
        ((p.elong.toNat : Int) - p.eshort.toNat)) ∧
    min p.ceilShort.toNat p.ceilLong.toNat ≤ ceiling p e ∧
    ceiling p e ≤ max p.ceilShort.toNat p.ceilLong.toNat

/-- A first hearing's judgement (R68, R69, R73 to R77): NOHISTORY alone with the meter flags without a prior reading; NOTIME and no rate when no time
elapsed; otherwise the floored rate held at 4,294,967,295 with OVERRANGE, the ceiling, HIGHRATE when the rate exceeds it, and STILL; the meter flags always. -/
def Obligations.FirstHearingJudgement : Prop :=
  ∀ (w : Width) (p : Profile) (prior : Option Reading) (c : Word32) (t : Telegram),
    let flags := raiseIf t.magnet indMagnet ||| raiseIf t.opened indOpened ||| raiseIf t.reverse indReverse
    (prior = none → judgeFirst w p prior c t = ⟨indNoHistory ||| flags, none, none⟩) ∧
    ∀ r : Reading, prior = some r →
      let e := (elapsed t.time r.time).1
      let d := (delta w p c.toNat r.counter.toNat).1
      let early := (elapsed t.time r.time).2 ||| (delta w p c.toNat r.counter.toNat).2
      (e = 0 → judgeFirst w p prior c t = ⟨early ||| indNoTime ||| flags, none, none⟩) ∧
      (e ≠ 0 → ∃ rate : Nat, rate = min (d * 3600 / e) 4294967295 ∧
        (judgeFirst w p prior c t).rate = some (BitVec.ofNat 32 rate) ∧
        (judgeFirst w p prior c t).ceiling = some (BitVec.ofNat 32 (ceiling p e)) ∧
        (judgeFirst w p prior c t).indicators = early |||
          raiseIf (decide (4294967295 < d * 3600 / e)) indOverrange |||
          raiseIf (decide (ceiling p e < rate)) indHighRate |||
          raiseIf (decide (p.idleSpan ≠ 0 ∧ d = 0 ∧ p.idleSpan.toNat ≤ e ∧
            (delta w p c.toNat r.counter.toNat).2 ≠ indBackstep)) indStill ||| flags)

/-- A later hearing's tests (R56, R78 to R80): an earlier meter time raises CLOCK and an equal one with another counter CLONE, the record keeping its reading;
a later one runs stage 3 against the record's counter, and the record takes the telegram's reading unless BACKSTEP is raised.
Indicators that come together or never do (R67): CLOCK always with NOTIME on a first hearing, WRAP never with BACKSTEP, HIGHRATE never with NOTIME, NOHISTORY with the
meter flags alone; no CLONE on a first hearing, and none of NOHISTORY, NOTIME, OVERRANGE, HIGHRATE, STILL on a later one. -/
def Obligations.LaterHearingTestsAndExclusions : Prop :=
  (∀ (w : Width) (p : Profile) (c t : Word32) (held : Reading),
    (t.toNat < held.time.toNat → judgeLater w p c t held = (indClock, false)) ∧
    (t = held.time → c ≠ held.counter → judgeLater w p c t held = (indClone, false)) ∧
    (t = held.time → c = held.counter → judgeLater w p c t held = (0, false)) ∧
    (held.time.toNat < t.toNat → judgeLater w p c t held =
      ((delta w p c.toNat held.counter.toNat).2,
        decide ((delta w p c.toNat held.counter.toNat).2 ≠ indBackstep)))) ∧
  ((∀ (w : Width) (p : Profile) (prior : Option Reading) (c : Word32) (t : Telegram),
    let i := (judgeFirst w p prior c t).indicators
    (meets i indClock = true → meets i indNoTime = true) ∧
    (meets i indWrap && meets i indBackstep) = false ∧
    (meets i indHighRate && meets i indNoTime) = false ∧
    meets i indClone = false ∧
    (meets i indNoHistory = true → meets i 0x0FE = false)) ∧
  ∀ (w : Width) (p : Profile) (c t : Word32) (held : Reading),
    let i := (judgeLater w p c t held).1
    meets i (indNoHistory ||| indNoTime ||| indOverrange ||| indHighRate ||| indStill) = false ∧
    (meets i indWrap && meets i indBackstep) = false ∧
    (meets i (indClock ||| indClone) = true → meets i (indWrap ||| indBackstep) = false))

/-! ## The stranger table's replacement tree -/

/-- The touch and the victim (R136, R137): the bits a touch sets and the one it leaves; the way the bits lead to; the way just touched is never the next
victim. -/
def Obligations.TouchAndVictim : Prop :=
  (∀ b : Tree, b.touch 0 = ⟨true, true, b.b2⟩ ∧ b.touch 1 = ⟨true, false, b.b2⟩ ∧
    b.touch 2 = ⟨false, b.b1, true⟩ ∧ b.touch 3 = ⟨false, b.b1, false⟩) ∧
  (∀ x : Bool, Tree.victim ⟨false, false, x⟩ = 0 ∧ Tree.victim ⟨false, true, x⟩ = 1 ∧
    Tree.victim ⟨true, x, false⟩ = 2 ∧ Tree.victim ⟨true, x, true⟩ = 3) ∧
  (∀ (b : Tree) (way : Nat), way < 4 → (b.touch way).victim ≠ way) ∧
  ((((⟨false, false, false⟩ : Tree).touch 0).touch 1).touch 2).touch 3 = ⟨false, false, false⟩ ∧
  ∀ (t : Strangers) (k j : Key) (way : Nat), (t.touch k way).tree j =
    if j.number.toNat % 64 = k.number.toNat % 64 then (t.tree k).touch way else t.tree j

/-! ## The tamper unit -/

/-- Firing and the member's tamper fields (R87 to R89): a class fires when its mode is not OFF and an indicator of the hearing is in its mask; a LATCH firing
latches; a RETRY firing sets the watch count to 0; a clean hearing raises a watched class's count or removes it at its clean count; the tamper state follows.
Prompt and deferred reports (R92, R93): the firing RETRY and LATCH classes go to the prompt entry when they are PROMPT, or DEFERRED with the stop CLOSED, and join the
deferred-pending set when they are DEFERRED with the stop not CLOSED. -/
def Obligations.FiringAndTamperFields : Prop :=
  (∀ (u : Tamper) (fired : ClassSet) (closed : Bool) (r : Member) (n : Nat), n < 4 →
    let reported := inSet fired n = true ∧ ((u.classOf n).mode = .retry ∨ (u.classOf n).mode = .latch)
    (inSet (promptClasses u fired closed) n = true ↔
      reported ∧ ((u.classOf n).timing = .prompt ∨ closed = true)) ∧
    (inSet (Member.heard u fired closed r).deferred n = true ↔ inSet r.deferred n = true ∨
      (reported ∧ (u.classOf n).timing = .deferred ∧ closed = false))) ∧
  ∀ (u : Tamper) (inds : IndicatorSet) (closed : Bool) (r : Member) (n : Nat), n < 4 →
    let fired := u.fired inds
    let after := Member.heard u fired closed r
    (inSet fired n = true ↔ (u.classOf n).mode ≠ .off ∧
      ∃ b : Nat, b < 12 ∧ inds.getLsbD b = true ∧ (u.classOf n).mask.getLsbD b = true) ∧
    (inSet after.latched n = true ↔ inSet r.latched n = true ∨
      (inSet fired n = true ∧ (u.classOf n).mode = .latch)) ∧
    (inSet fired n = true → (u.classOf n).mode = .retry → Table.find after.watch n = some 0) ∧
    (¬ (inSet fired n = true ∧ (u.classOf n).mode = .retry) →
      (Table.find r.watch n = none → Table.find after.watch n = none) ∧
      ∀ count, Table.find r.watch n = some count → Table.find after.watch n =
        if count + 1 < (u.classOf n).clean then some (count + 1) else none) ∧
    after.tamper = (if after.latched ≠ 0 then .flagged else if after.watch ≠ [] then .watch else .clean) ∧
    after = { r with
      latched := after.latched, watch := after.watch, tamper := after.tamper, deferred := after.deferred }

/-- An offered alert entry (R96, R97): queued at the tail with ALERT_QUEUED, or lost to a full queue with ALERT_OVERFLOW; a stall class in it sets STALLED either way, and
STALL_BEGAN when STALLED was clear; nothing else changes. A class is a stall class exactly when its record has the stall attribute. -/
def Obligations.AlertOffered : Prop :=
  (∀ (u : Tamper) (n : Nat), n < 4 →
    (inSet u.stallClasses n = true ↔ ∃ r, Table.find u.classes n = some r ∧ r.stall = true)) ∧
  (∀ (u : Tamper) (classes : ClassSet), meets classes u.stallClasses = true ↔
    ∃ n r, n < 4 ∧ inSet classes n = true ∧ Table.find u.classes n = some r ∧ r.stall = true) ∧
  ∀ (a : Alert) (m : Part),
    let stall := meets a.classes m.tamper.stallClasses
    let began := if stall && !m.tamper.stalled then evStallBegan else 0
    (m.tamper.alerts.length < 32 → m.offerAlert a = Part.setShared (evAlertQueued ||| began) { m with
      tamper := { m.tamper with alerts := m.tamper.alerts ++ [a], stalled := m.tamper.stalled || stall } }) ∧
    (¬ m.tamper.alerts.length < 32 → m.offerAlert a = Part.setShared (evAlertOverflow ||| began) { m with
      tamper := { m.tamper with stalled := m.tamper.stalled || stall } })

/-- The deferred entries of a closing stop (R94): one for each member of the stop with a deferred-pending set, in ascending key order, each offered to the queue in
turn; the sets are emptied; nothing else changes. An entry has the set's classes, the record's indicators in the mask of at least one of them, origin DEFERRED and the route time. -/
def Obligations.DeferredEntriesOfAClose : Prop :=
  (∀ (m : Part) (r : Member), ∃ inds : IndicatorSet,
    m.deferredAlert r = ⟨r.key, r.stop, r.deferred, inds, .deferred, m.route.clock⟩ ∧
    ∀ b : Nat, b < 12 → (inds.getLsbD b = true ↔
      (∃ i q, r.record = some i ∧ m.store[i]? = some q ∧ q.indicators.getLsbD b = true) ∧
      ∃ n, n < 4 ∧ inSet r.deferred n = true ∧ (m.tamper.classOf n).mask.getLsbD b = true)) ∧
  ∀ (n : Nat) (m : Part), m.tamper.alerts.length ≤ 32 → Table.Canonical m.dir.ways →
    ∃ (due : List (Nat × Member)) (ways : Table Member),
      due.Perm (m.dir.ways.filter (fun e => e.2.stop == n && e.2.deferred != 0)) ∧
      due.Pairwise (fun a b => b.2.key.before a.2.key = false) ∧
      (∀ p, Table.find ways p = (Table.find m.dir.ways p).map
        (fun r => if r.stop = n then { r with deferred := 0 } else r)) ∧
      m.reportStop n = Part.withAlerts (due.map (fun e => m.deferredAlert e.2))
        { m with dir := { m.dir with ways := ways } }

/-! ## Requests that are refused -/

/-- Refusals that leave everything but the answer as it was: WRONG_STATE outside the route states a request is taken in, whatever its body and STALLED hold (R21, R25, R102, R112, R113, R122, R146,
R165, R168, R169); STALLED for OPEN STOP, CLOSE STOP, SKIP SWEEP and END ROUTE in RUNNING with STALLED set and PASS off, before any test of the body (R99); BAD_VALUE for a body of the wrong length or
with a field out of range, after those tests and QUERY MEMBERS's BUSY test (R202, R201). That the first two have no body the model infers (log 17). -/
def Obligations.RefusedRequestsChangeNothing : Prop :=
  (∀ (p : HostPort) (r : Request) (tag : Byte) (body : List Byte) (s : State), r ∈ portRequests p →
    Ready s (portLine p) → body.length + 2 ≤ 64 → takenIn r s.part.route.state = false →
    Becomes (commandOf r p tag body) s (s.part.answer p tag .wrongState .none)) ∧
  (∀ (r : Request) (tag : Byte) (body : List Byte) (s : State), r ∈ heldRequests →
    Ready s .cab → body.length + 2 ≤ 64 → s.part.route.state = .running →
    s.part.tamper.stalled = true → s.part.tamper.pass = false →
    Becomes (commandOf r .cab tag body) s (s.part.answer .cab tag .stalled .none)) ∧
  ∀ (p : HostPort) (r : Request) (tag : Byte) (body : List Byte) (s : State), r ∈ portRequests p →
    Ready s (portLine p) → body.length + 2 ≤ 64 → takenIn r s.part.route.state = true →
    (r ∈ heldRequests → s.part.tamper.stalled = false ∨ s.part.tamper.pass = true) →
    (r = .queryMembers → (s.part.port p).scan = none ∧ ∀ x ∈ (s.part.port p).link.out, x.scan = false) →
    bodyTaken r p body = false →
    Becomes (commandOf r p tag body) s (s.part.answer p tag .badValue .none)

/-- The bodies the loading requests take are exactly those of R202's layout with the codes of R201: LOAD STOP, LOAD MEMBER (10 bytes without and 18 with a prior
reading), LOAD PROFILE (Eshort not 0 and below Elong, R64), LOAD CLASS (the clean count clamped to 1 to 15, R84). -/
def Obligations.LoadingBodyLayouts : Prop :=
  (∀ (body : List Byte) (f : LoadStopFields), loadStopOf body = some f ↔
    f.stop ≤ 511 ∧ f.lingerTime ≤ 255 ∧
    body = be16 f.stop ++ be8 (closeModeCode f.mode) ++ be8 f.lingerTime) ∧
  (∀ (body : List Byte) (f : LoadMemberFields), loadMemberOf body = some f ↔
    f.stop ≤ 511 ∧ f.profile ≤ 15 ∧
    body = be32 f.key.number ++ be8 (kindCode f.key.kind) ++ be16 f.stop ++ be8 (widthCode f.width) ++
      be8 f.profile ++ (match f.prior with
        | none => be8 0
        | some r => be8 1 ++ be32 r.counter ++ be32 r.time)) ∧
  (∀ (body : List Byte) (n : Nat) (p : Profile), loadProfileOf body = some (n, p) ↔
    n ≤ 15 ∧ p.eshort ≠ 0 ∧ p.eshort.toNat < p.elong.toNat ∧
    body = be8 n ++ be32 p.ceilShort ++ be32 p.ceilLong ++ be32 p.eshort ++ be32 p.elong ++
      be16 p.window.toNat ++ be16 p.zone.toNat ++ be32 p.idleSpan) ∧
  ∀ (body : List Byte) (n : Nat) (c : ClassRecord), loadClassOf body = some (n, c) ↔
    n ≤ 3 ∧ ∃ mode count : Byte, classModeOf mode.toNat = some c.mode ∧
      c.clean = max 1 (min 15 count.toNat) ∧
      body = be8 n ++ be16 c.mask.toNat ++ [mode] ++ be8 (timingCode c.timing) ++
        be8 (flagCode c.stall) ++ [count]

/-- The bodies of TELEGRAM (bits 4 to 7 of the flag byte ignored, R41), CLEAR TAMPER, CLOSE STOP (override mode judged when its presence is 1, ignored when it is 0), READ MEMBER, QUERY MEMBERS (stop number judged when one is
selected, ignored for ALL), the event sets, OPEN STOP and READ STOP, CONFIRM BATCH and REJECT BATCH (number not 0), CLEAR ROUTE, SET PASS, READ ALERT and
READ STRANGERS, as R202 lays them out with the codes and sets of R201. -/
def Obligations.OtherBodyLayouts : Prop :=
  (∀ (body : List Byte) (t : Telegram), telegramOf body = some t ↔
    ∃ flags : Byte, body = be32 t.key.number ++ be8 (kindCode t.key.kind) ++ be32 t.counter ++ be32 t.time ++
        [flags, t.signal] ∧
      flags.getLsbD 0 = t.magnet ∧ flags.getLsbD 1 = t.opened ∧ flags.getLsbD 2 = t.reverse ∧
      flags.getLsbD 3 = t.batteryLow) ∧
  (∀ (body : List Byte) (k : Key) (classes : ClassSet), clearTamperOf body = some (k, classes) ↔
    body = be32 k.number ++ be8 (kindCode k.kind) ++ be8 classes.toNat) ∧
  (∀ (body : List Byte) (n : Nat) (o : Option CloseMode), closeStopOf body = some (n, o) ↔
    n ≤ 511 ∧ match o with
      | none => ∃ ignored : Byte, body = be16 n ++ be8 0 ++ [ignored]
      | some mode => body = be16 n ++ be8 1 ++ be8 (closeModeCode mode)) ∧
  (∀ (body : List Byte) (k : Key), readMemberOf body = some k ↔
    body = be32 k.number ++ be8 (kindCode k.kind)) ∧
  (∀ (body : List Byte) (q : Selection) (start : Nat), queryOf body = some (q, start) ↔
    start ≤ 8191 ∧ ∃ x y : Byte,
      body = be8 q.readStates.toNat ++ be8 q.tamperStates.toNat ++ be8 q.kinds.toNat ++ be8 q.histories.toNat ++
        be8 (if q.stop.isSome then 1 else 0) ++ [x, y] ++ be16 start ∧
      ∀ n, q.stop = some n → n ≤ 511 ∧ [x, y] = be16 n) ∧
  (∀ (p : HostPort) (body : List Byte) (e : EventSet), eventsOf p body = some e ↔
    body = be16 e.toNat ∧ e &&& ~~~ viewEvents p = 0) ∧
  (∀ (body : List Byte) (n : Nat),
    (stopOf body = some n ↔ n ≤ 511 ∧ body = be16 n) ∧
    (batchNumberOf body = some n ↔ 1 ≤ n ∧ n ≤ 65535 ∧ body = be16 n) ∧
    (startPlaceOf body = some n ↔ n ≤ 31 ∧ body = be8 n) ∧
    (startPositionOf body = some n ↔ n ≤ 255 ∧ body = be16 n)) ∧
  ∀ (body : List Byte) (on : Bool),
    (discardOf body = some on ↔ body = be8 (if on then 1 else 0)) ∧
    (passOf body = some on ↔ body = be8 (if on then 1 else 0))

/-! ## Loading and the route's life -/

/-- BEGIN LOAD in EMPTY makes the route LOADING, and START ROUTE in READY makes it RUNNING with the clock at 0 and running; each sets ROUTE_CHANGED, is answered OK and
changes nothing else (R22, R29, R21). -/
def Obligations.LoadingBeginsAndRouteStarts : Prop :=
  ∀ (tag : Byte) (s : State),
    (Ready s .depot → s.part.route.state = .empty → Becomes (.beginLoad tag []) s
      (Part.answer .depot tag .ok .none (Part.setShared evRouteChanged
        { s.part with route := { s.part.route with state := .loading } }))) ∧
    (Ready s .cab → s.part.route.state = .ready → Becomes (.startRoute tag []) s
      (Part.answer .cab tag .ok .none (Part.setShared evRouteChanged
        { s.part with route := { s.part.route with state := .running, clock := 0, clockRunning := true } })))

/-- LOAD STOP (R23, R24): a stop number not yet loaded gets a PENDING record at the next route position; a loaded one is answered DUPLICATE and nothing changes.
LOAD PROFILE and LOAD CLASS (R25, R64, R84): the entry is written at its index, replacing what it held, and marked loaded; LOAD CLASS's answer gives the clean count as
stored. -/
def Obligations.StopsProfilesAndClassesLoad : Prop :=
  (∀ (tag : Byte) (body : List Byte) (f : LoadStopFields) (s : State), Ready s .depot →
    s.part.route.state = .loading → loadStopOf body = some f →
    (s.part.stop f.stop ≠ none → Becomes (.loadStop tag body) s (s.part.answer .depot tag .duplicate .none)) ∧
    (s.part.stop f.stop = none → Becomes (.loadStop tag body) s
      (Part.answer .depot tag .ok (.routePosition s.part.route.stopsLoaded) { s.part with
        route := { s.part.route with stopsLoaded := s.part.route.stopsLoaded + 1 }
        stops := { s.part.stops with
          records := Table.put f.stop
            { number := f.stop, position := s.part.route.stopsLoaded, mode := f.mode, lingerTime := f.lingerTime,
              members := 0, readCount := 0, state := .pending, slot := none, openTime := none }
            s.part.stops.records } }))) ∧
  ∀ (tag : Byte) (body : List Byte) (s : State), Ready s .depot → s.part.route.state = .loading →
    (∀ n p, loadProfileOf body = some (n, p) → Becomes (.loadProfile tag body) s
      (Part.answer .depot tag .ok .none { s.part with
        profiles := Table.put n p s.part.profiles
        route := { s.part.route with
          profilesLoaded := s.part.route.profilesLoaded ||| BitVec.ofNat 16 (2 ^ n) } })) ∧
    ∀ n c, loadClassOf body = some (n, c) → Becomes (.loadClass tag body) s
      (Part.answer .depot tag .ok (.cleanCount c.clean) { s.part with
        tamper := { s.part.tamper with classes := Table.put n c s.part.tamper.classes }
        route := { s.part.route with
          classesLoaded := s.part.route.classesLoaded ||| BitVec.ofNat 4 (2 ^ n) } })

/-- LOAD MEMBER (R8, R9, R4, R5, R17): DUPLICATE for a key held, even in a full set; SET_FULL; otherwise the lowest invalid way of the key's set gets the record, a HALF member's
prior counter kept modulo 65,536, and the valid and UNREAD counts rise by 1. -/
def Obligations.LoadMemberAddsAMember : Prop :=
  ∀ (tag : Byte) (body : List Byte) (f : LoadMemberFields) (s : State), Ready s .depot →
    s.part.route.state = .loading → loadMemberOf body = some f →
    let set := f.key.number.toNat % 2048
    ((∃ e ∈ s.part.dir.ways, e.1 / 4 = set ∧ e.2.key = f.key) →
      Becomes (.loadMember tag body) s (s.part.answer .depot tag .duplicate .none)) ∧
    ((∀ e ∈ s.part.dir.ways, e.1 / 4 = set → e.2.key ≠ f.key) →
      ((∀ w, w < 4 → Table.find s.part.dir.ways (set * 4 + w) ≠ none) →
        Becomes (.loadMember tag body) s (s.part.answer .depot tag .setFull .none)) ∧
      ∀ w, w < 4 → Table.find s.part.dir.ways (set * 4 + w) = none →
        (∀ v, v < w → Table.find s.part.dir.ways (set * 4 + v) ≠ none) →
        Becomes (.loadMember tag body) s
          (Part.answer .depot tag .ok (.position (set * 4 + w)) { s.part with
            dir :=
              { ways := Table.put (set * 4 + w)
                  { key := f.key, stop := f.stop, width := f.width, profile := f.profile
                    prior := f.prior.map (fun r => ⟨if f.width = .half
                      then BitVec.ofNat 32 (r.counter.toNat % 65536) else r.counter, r.time⟩)
                    readState := .unread, tamper := .clean, latched := 0, watch := [], deferred := 0
                    record := none } s.part.dir.ways
                counts := { s.part.dir.counts with
                  valid := s.part.dir.counts.valid + 1, unread := s.part.dir.counts.unread + 1 } } }))

/-- FINISH LOAD whose checks fail (R27): INCOMPLETE names check 1, or the first member, in position order, with a missing stop, or else the first with an unloaded profile; nothing
changes.
FINISH LOAD whose checks pass (R28, R85): each stop's member count is the number of valid members that carry its number; each class not marked loaded becomes OFF with an empty mask,
PROMPT, no stall, clean count 1; the route is READY and ROUTE_CHANGED set; nothing else changes. -/
def Obligations.FinishLoadChecksTheBook : Prop :=
  (∀ (tag : Byte) (s : State), Ready s .depot → s.part.route.state = .loading →
    (s.part.route.stopsLoaded = 0 →
      Becomes (.finishLoad tag []) s (s.part.answer .depot tag .incomplete (.incomplete .noStop))) ∧
    (s.part.route.stopsLoaded ≠ 0 →
      (∀ before p r after, s.part.dir.ways = before ++ (p, r) :: after → s.part.stop r.stop = none →
        (∀ e ∈ before, s.part.stop e.2.stop ≠ none) →
        Becomes (.finishLoad tag []) s (s.part.answer .depot tag .incomplete
          (.incomplete (.missingStop p r.key r.stop)))) ∧
      ∀ before p r after, s.part.dir.ways = before ++ (p, r) :: after →
        (∀ e ∈ s.part.dir.ways, s.part.stop e.2.stop ≠ none) →
        s.part.route.profilesLoaded.getLsbD r.profile = false →
        (∀ e ∈ before, s.part.route.profilesLoaded.getLsbD e.2.profile = true) →
        Becomes (.finishLoad tag []) s (s.part.answer .depot tag .incomplete
          (.incomplete (.missingProfile p r.key r.profile))))) ∧
  ∀ (tag : Byte) (s : State), Ready s .depot → s.part.route.state = .loading → s.part.route.stopsLoaded ≠ 0 →
    (∀ e ∈ s.part.dir.ways, s.part.stop e.2.stop ≠ none ∧
      s.part.route.profilesLoaded.getLsbD e.2.profile = true) →
    (∀ n, n < 4 → (s.part.route.classesLoaded.getLsbD n = true ↔ Table.find s.part.tamper.classes n ≠ none)) →
    ∃ classes : Table ClassRecord, Becomes (.finishLoad tag []) s
      (Part.answer .depot tag .ok .none (Part.setShared evRouteChanged { s.part with
        route := { s.part.route with state := .ready }
        tamper := { s.part.tamper with classes := classes }
        stops := { s.part.stops with
          records := Table.mapValues (fun r => { r with
            members := s.part.dir.ways.countP (fun e => e.2.stop == r.number) }) s.part.stops.records } })) ∧
      ∀ n, n < 4 → Table.find classes n =
        some ((Table.find s.part.tamper.classes n).getD ⟨0, .off, .prompt, false, 1⟩)

/-- END ROUTE (R32, R33, R12, R47, R95, R127): RETURNED with ROUTE_CHANGED; intake emptied and its evaluation void; OPEN and LINGER stops CLOSED without carrying, every slot free, the opening order and
the sweep list empty; every UNREAD and CARRIED member MISSED; every deferred set emptied into entries offered in stop and key order; nothing else. -/
def Obligations.EndRouteReturnsTheRoute : Prop :=
  ∀ (tag : Byte) (s : State), Ready s .cab → s.part.route.state = .running →
    s.part.tamper.stalled = false ∨ s.part.tamper.pass = true → s.part.tamper.alerts.length ≤ 32 →
    Table.Canonical s.part.dir.ways →
    ∃ (ways : Table Member) (due : List (Nat × Member)),
      (∀ p, Table.find ways p = (Table.find s.part.dir.ways p).map (fun r => { r with
        readState := if r.readState = .read then .read else .missed
        deferred := 0 })) ∧
      due.Perm (s.part.dir.ways.filter (fun e => e.2.deferred != 0)) ∧
      due.Pairwise (fun a b => a.2.stop < b.2.stop ∨
        (a.2.stop = b.2.stop ∧ b.2.key.before a.2.key = false)) ∧
      Becomes (.endRoute tag []) s
        (Part.answer .cab tag .ok .none (Part.setShared evRouteChanged
          (Part.withAlerts (due.map (fun e => s.part.deferredAlert e.2)) { s.part with
            route := { s.part.route with state := .returned }
            intake := ⟨[], s.part.intake.eval.map (fun e => { e with void := true })⟩
            stops :=
              { records := Table.mapValues (fun r => if r.state = .opened ∨ r.state = .lingering
                  then { r with state := .closed, slot := none } else r) s.part.stops.records
                slots := Vector.replicate 4 ⟨none, none⟩
                order := []
                sweep := [] }
            dir :=
              { ways := ways
                counts := { s.part.dir.counts with
                  unread := 0
                  carried := 0
                  missed := s.part.dir.counts.missed + s.part.dir.counts.unread + s.part.dir.counts.carried } } })))

/-- CLEAR ROUTE (R37, R38, R19, R153, R182): without DISCARD it is refused with WRONG_STATE in RUNNING, RETURNED and UPLOADING; taken, it empties every route table, keeps PASS, the batch counter, masks, dock status
and marker, makes the route EMPTY with ROUTE_CHANGED, ends each scan in flight with ENDED and is answered OK, ENDED and OK in either order on the depot port. The counter of open choices, which rises by 1 when both go to the depot, is the model's own (log 12). -/
def Obligations.ClearRouteEmptiesTheRoute : Prop :=
  ∀ (tag : Byte) (discard : Bool) (s : State), Ready s .depot → s.part.route.state ≠ .empty →
    let q := s.part.route.state
    let body := be8 (flagCode discard)
    let cleared : Part := Part.setShared evRouteChanged { s.part with
      route := ⟨.empty, 0, false, 0, 0, 0⟩
      dir := ⟨[], ⟨0, 0, 0, 0, 0⟩⟩
      profiles := []
      tamper := ⟨[], [], false, s.part.tamper.pass⟩
      stops := ⟨[], Vector.replicate 4 ⟨none, none⟩, [], []⟩
      intake := ⟨[], s.part.intake.eval.map (fun e => { e with void := true })⟩
      store := []
      strangers := ⟨[], Vector.replicate 64 ⟨false, false, false⟩, 0⟩
      upload := ⟨none, [], s.part.upload.counter⟩ }
    let cabEnded : Part := match s.part.ports.cab.scan with
      | none => cleared
      | some c => cleared.onPort .cab (fun k => { k with
          scan := none, link := { k.link with out := k.link.out ++ [⟨.ended, c.tag, .none, true⟩] } })
    (discard = false → (q = .running ∨ q = .returned ∨ q = .uploading) →
      Becomes (.clearRoute tag body) s (s.part.answer .depot tag .wrongState .none)) ∧
    ((discard = true ∨ q = .loading ∨ q = .ready ∨ q = .done) →
      (s.part.ports.depot.scan = none →
        Becomes (.clearRoute tag body) s (cabEnded.answer .depot tag .ok .none)) ∧
      ∀ c, s.part.ports.depot.scan = some c →
        ∃ two : List Response, (two = [⟨.ended, c.tag, .none, true⟩, ⟨.ok, tag, .none, false⟩] ∨
            two = [⟨.ok, tag, .none, false⟩, ⟨.ended, c.tag, .none, true⟩]) ∧
          Becomes (.clearRoute tag body) s
            { cabEnded.onPort .depot (fun k => { k with
                scan := none, link := { k.link with out := k.link.out ++ two } }) with
              choices := s.part.choices + 1 })

/-- BEGIN UPLOAD in RETURNED (R35, R158, R162): the order lists the reading items in store order, a miss item for each MISSED member in key order, and the stranger items in position order, every item FRESH; the route is
UPLOADING, or DONE when the order is empty, with ROUTE_CHANGED. -/
def Obligations.BeginUploadFormsTheOrder : Prop :=
  ∀ (tag : Byte) (s : State), Ready s .depot → s.part.route.state = .returned →
    ∃ missed : List (Nat × Member),
      missed.Perm (s.part.dir.ways.filter (fun e => e.2.readState == .missed)) ∧
      missed.Pairwise (fun a b => b.2.key.before a.2.key = false) ∧
      let items := (List.range s.part.store.length).map UploadItem.reading ++
        missed.map (fun e => UploadItem.miss e.2.key .fresh) ++
        s.part.strangers.entries.map (fun e => UploadItem.stranger e.1)
      let after : RouteState := if items = [] then .done else .uploading
      Becomes (.beginUpload tag []) s
        (Part.answer .depot tag .ok (.routeState after) (Part.setShared evRouteChanged { s.part with
          route := { s.part.route with state := after }
          store := s.part.store.map (fun r => { r with upload := .fresh, batch := none })
          strangers := { s.part.strangers with
            entries := Table.mapValues (fun x => { x with upload := .fresh }) s.part.strangers.entries }
          upload := { s.part.upload with order := some items } }))

/-! ## Upload batches -/

/-- NEXT BATCH in UPLOADING (R164 to R166): WINDOW_FULL with two batches outstanding; NOTHING with no item FRESH; otherwise the lowest FRESH items, up to 64, become BATCHED under the next number, 1 after 65,535
and past the other batch's, with 20 seconds to confirm, and the answer carries them, each item with what its record, its member or its entry holds when the batch is formed (R159 to R161). -/
def Obligations.NextBatchFormsABatch : Prop :=
  (∀ m : Part,
    (∀ (i : Nat) (r : Record), m.store[i]? = some r → m.itemContent (.reading i) = some (.reading r)) ∧
    (∀ (k : Key) (u : UploadState) (p : Nat) (r : Member), m.dir.lookup k = some (p, r) →
      m.itemContent (.miss k u) = some (.miss k r.stop r.tamper r.latched)) ∧
    ∀ (p : Nat) (e : Stranger), Table.find m.strangers.entries p = some e →
      m.itemContent (.stranger p) = some (.stranger p e)) ∧
  ∀ (tag : Byte) (s : State), Ready s .depot → s.part.route.state = .uploading →
    let u := s.part.upload
    let fresh := (List.range u.items.length).filter
      (fun n => u.items[n]?.map s.part.itemState == some UploadState.fresh)
    let following := fun n : Nat => if 65535 ≤ n then 1 else n + 1
    (2 ≤ u.batches.length → Becomes (.nextBatch tag []) s
      (s.part.answer .depot tag .windowFull (.windowFull (u.batches.map (fun b => (b.number, b.timer.left)))))) ∧
    (u.batches.length < 2 → fresh = [] → Becomes (.nextBatch tag []) s
      (s.part.answer .depot tag .nothing (.nothing
        (u.items.countP (fun i => s.part.itemState i == .batched))
        (u.batches.map (fun b => (b.number, b.timer.left)))))) ∧
    (u.batches.length < 2 → fresh ≠ [] → ∃ (number : Nat) (m : Part),
      number = (if ∃ b ∈ u.batches, b.number = following u.counter then following (following u.counter)
        else following u.counter) ∧
      s.part.ItemsMoved m (fresh.take 64) .batched (some number) ∧
      m.upload.batches = u.batches ++ [⟨number, fresh.take 64, ⟨20, false⟩⟩] ∧ m.upload.counter = number ∧
      Becomes (.nextBatch tag []) s (m.answer .depot tag .ok (.batch number
        ((fresh.take 64).filterMap (fun n => (m.upload.items[n]?.bind m.itemContent).map (fun c => (n, c)))))))

/-- CONFIRM BATCH and REJECT BATCH in UPLOADING and CONFIRM_TIMER_EXPIRY (R167 to R170, R175, R36): STALE for a number no outstanding batch holds, changing nothing; a confirmed batch's items become CONFIRMED, and the
route DONE with ROUTE_CHANGED when they were the last; a rejected or expired batch's items return to FRESH with BATCH_RETURNED; the batch is retired. That the expiry command waits for the end of the timer's last second, and has no effect for another batch
or number, is the model's choice (log 4). -/
def Obligations.BatchesAreRetired : Prop :=
  ∀ (tag : Byte) (body : List Byte) (n : Nat) (s : State),
    (Ready s .depot → s.part.route.state = .uploading → batchNumberOf body = some n →
      (s.part.upload.batch n = none →
        Becomes (.confirmBatch tag body) s (s.part.answer .depot tag .stale (.stale n)) ∧
        Becomes (.rejectBatch tag body) s (s.part.answer .depot tag .stale (.stale n))) ∧
      ∀ b, s.part.upload.batch n = some b →
        (∃ m : Part, s.part.ItemsMoved m b.items .confirmed (some n) ∧ m.upload.counter = s.part.upload.counter ∧
          m.upload.batches = s.part.upload.batches.filter (fun x => x.number != n) ∧
          let confirmed := m.upload.items.countP (fun i => m.itemState i == .confirmed)
          (confirmed = m.upload.items.length → Becomes (.confirmBatch tag body) s
            (Part.answer .depot tag .ok (.confirmed n b.items.length confirmed true .done)
              (Part.setShared evRouteChanged { m with route := { m.route with state := .done } }))) ∧
          (confirmed ≠ m.upload.items.length → Becomes (.confirmBatch tag body) s
            (m.answer .depot tag .ok (.confirmed n b.items.length confirmed false .uploading)))) ∧
        ∃ m : Part, s.part.ItemsMoved m b.items .fresh none ∧ m.upload.counter = s.part.upload.counter ∧
          m.upload.batches = s.part.upload.batches.filter (fun x => x.number != n) ∧
          Becomes (.rejectBatch tag body) s
            ((m.setShared evBatchReturned).answer .depot tag .ok (.rejected n b.items.length))) ∧
    (s.part.alive = true →
      (s.part.upload.batch n = none → Becomes (.confirmTimerExpiry n) s s.part) ∧
      ∀ b, s.part.upload.batch n = some b →
        (b.timer.due = false → Becomes (.confirmTimerExpiry n) s s.part) ∧
        (b.timer.due = true → ∃ m : Part, s.part.ItemsMoved m b.items .fresh none ∧
          m.upload.counter = s.part.upload.counter ∧
          m.upload.batches = s.part.upload.batches.filter (fun x => x.number != n) ∧
          Becomes (.confirmTimerExpiry n) s (m.setShared evBatchReturned)))

/-! ## Alerts, PASS and tamper fields -/

/-- ACKNOWLEDGE ALERT and SET PASS (R98, R100): the head entry leaves and is returned, or EMPTY; STALLED stays set only while an entry that remains names a stall class, on an empty queue as well; a body that is not empty is refused with BAD_VALUE; PASS takes the value
given; nothing else changes. -/
def Obligations.AlertsAcknowledgedAndPassSet : Prop :=
  ∀ (tag : Byte) (body : List Byte) (s : State), Ready s .cab →
    let u := s.part.tamper
    (body ≠ [] → body.length + 2 ≤ 64 →
      Becomes (.acknowledgeAlert tag body) s (s.part.answer .cab tag .badValue .none)) ∧
    (u.alerts = [] → Becomes (.acknowledgeAlert tag []) s
      (Part.answer .cab tag .empty (.acknowledged none false 0)
        { s.part with tamper := { u with stalled := false } })) ∧
    (∀ a rest, u.alerts = a :: rest →
      let stalled := u.stalled && rest.any (fun x => meets x.classes u.stallClasses)
      Becomes (.acknowledgeAlert tag []) s
        (Part.answer .cab tag .ok (.acknowledged (some a) stalled rest.length)
          { s.part with tamper := { u with alerts := rest, stalled := stalled } })) ∧
    ∀ value, passOf body = some value → Becomes (.setPass tag body) s
      (Part.answer .cab tag .ok (.pass value u.stalled) { s.part with tamper := { u with pass := value } })

/-- CLEAR TAMPER outside EMPTY and LOADING (R102): NOT_FOUND for a key that misses; otherwise the named classes leave the member's latched set, watch map and deferred-pending set, the tamper state is recomputed, and the answer
gives the four fields; the alert queue, STALLED and the records stay. -/
def Obligations.ClearTamperRemovesClasses : Prop :=
  ∀ (tag : Byte) (body : List Byte) (k : Key) (classes : ClassSet) (s : State), Ready s .depot →
    s.part.route.state ≠ .empty → s.part.route.state ≠ .loading → clearTamperOf body = some (k, classes) →
    (s.part.dir.lookup k = none → Becomes (.clearTamper tag body) s (s.part.answer .depot tag .notFound .none)) ∧
    ∀ p r, s.part.dir.lookup k = some (p, r) → Table.Canonical s.part.dir.ways →
      ∃ after : Member, after.latched = r.latched &&& ~~~classes ∧ after.deferred = r.deferred &&& ~~~classes ∧
        after.watch = r.watch.filter (fun e => !classes.getLsbD e.1) ∧
        after.tamper = (if after.latched ≠ 0 then .flagged else if after.watch ≠ [] then .watch else .clean) ∧
        after = { r with
          latched := after.latched, deferred := after.deferred, watch := after.watch, tamper := after.tamper } ∧
        Becomes (.clearTamper tag body) s
          (Part.answer .depot tag .ok (.tamperFields after.tamper after.latched after.watch after.deferred)
            { s.part with dir := { s.part.dir with ways := Table.put p after s.part.dir.ways } })

/-! ## Stops and the sweep list -/

/-- OPEN STOP in RUNNING and not held (R112, R111): NOT_FOUND for a number not loaded, WRONG_STATE for a stop not PENDING, NO_SLOT when every slot is held; otherwise the stop takes the lowest free slot, is OPEN with the clock's time, and
goes last in the opening order. -/
def Obligations.OpenStopTakesTheLowestSlot : Prop :=
  ∀ (tag : Byte) (body : List Byte) (n : Nat) (s : State), Ready s .cab → s.part.route.state = .running →
    s.part.tamper.stalled = false ∨ s.part.tamper.pass = true → stopOf body = some n →
    (s.part.stop n = none → Becomes (.openStop tag body) s (s.part.answer .cab tag .notFound .none)) ∧
    ∀ r, s.part.stop n = some r →
      (r.state ≠ .pending → Becomes (.openStop tag body) s (s.part.answer .cab tag .wrongState .none)) ∧
      (r.state = .pending →
        ((∀ i : Fin 4, s.part.stops.slots[i].stop ≠ none) →
          Becomes (.openStop tag body) s (s.part.answer .cab tag .noSlot .none)) ∧
        ∀ i : Fin 4, s.part.stops.slots[i].stop = none → (∀ j : Fin 4, j < i → s.part.stops.slots[j].stop ≠ none) →
          Becomes (.openStop tag body) s
            (Part.answer .cab tag .ok (.opened i s.part.route.clock) { s.part with
              stops := { s.part.stops with
                records := Table.modify n (fun q => { q with
                  state := .opened, slot := some i, openTime := some s.part.route.clock }) s.part.stops.records
                slots := s.part.stops.slots.set i.val ⟨some n, none⟩ i.isLt
                order := s.part.stops.order ++ [n] } }))

/-- CLOSE STOP in RUNNING and not held, and LINGER_EXPIRY (R113, R116 to R118): the effective mode of R113's table; LINGER keeps the slot, starts its timer at the stop's linger time and takes the stop off the opening order; DROP and CARRY close
the stop, as an expired timer does, with LINGER_ENDED; what a close does is StopCloseDealsWithItsMembers. That the
expiry command waits for the end of the timer's last second, and has no effect for another slot, is the model's choice (log 4). -/
def Obligations.CloseStopLingersOrCloses : Prop :=
  (∀ (tag : Byte) (body : List Byte) (n : Nat) (o : Option CloseMode) (s : State), Ready s .cab →
    s.part.route.state = .running → s.part.tamper.stalled = false ∨ s.part.tamper.pass = true →
    closeStopOf body = some (n, o) →
    (s.part.stop n = none → Becomes (.closeStop tag body) s (s.part.answer .cab tag .notFound .none)) ∧
    ∀ r, s.part.stop n = some r → r.number = n →
      (r.state = .pending ∨ r.state = .closed →
        Becomes (.closeStop tag body) s (s.part.answer .cab tag .wrongState .none)) ∧
      (r.state = .opened → o.getD r.mode = .linger → r.lingerTime ≠ 0 → ∀ i, r.slot = some i →
        Becomes (.closeStop tag body) s
          (Part.answer .cab tag .ok (.closed .lingering 0 0 s.part.stops.sweep.length) { s.part with
            stops := { s.part.stops with
              records := Table.modify n (fun q => { q with state := .lingering }) s.part.stops.records
              slots := s.part.stops.slots.set i.val ⟨some n, some ⟨r.lingerTime, false⟩⟩ i.isLt
              order := s.part.stops.order.filter (fun x => x != n) } })) ∧
      ∀ drop : Bool,
        ((r.state = .opened ∧ ((o.getD r.mode = .drop ∧ drop = true) ∨ (o.getD r.mode = .carry ∧ drop = false) ∨
            (o.getD r.mode = .linger ∧ r.lingerTime = 0 ∧ drop = false))) ∨
          (r.state = .lingering ∧ ((o = some .drop ∧ drop = true) ∨ (o ≠ some .drop ∧ drop = false)))) →
        Becomes (.closeStop tag body) s
          ((s.part.closeStop r drop).part.answer .cab tag .ok
            (.closed .closed (s.part.closeStop r drop).carried (s.part.closeStop r drop).missed
              (s.part.closeStop r drop).part.stops.sweep.length))) ∧
  ∀ (i : Fin 4) (s : State), s.part.alive = true →
    (∀ n r t, s.part.stops.slots[i] = ⟨some n, some t⟩ → t.due = true → s.part.stop n = some r →
      Becomes (.lingerExpiry i) s ((s.part.closeStop r false).part.setLocal .cab evLingerEnded)) ∧
    ((∀ t, s.part.stops.slots[i].timer = some t → t.due = false) → Becomes (.lingerExpiry i) s s.part)

/-- A stop is closed (R114, R115, R120, R94): its UNREAD members, in key order, are CARRIED at the sweep list's tail while it has room and MISSED after that, or all MISSED by a DROP; SWEEP_OVERFLOW if a CARRY turned one away; the record CLOSED, its slot
free, off the opening order; the counts follow; then the deferred entries of its members. -/
def Obligations.StopCloseDealsWithItsMembers : Prop :=
  ∀ (r : Stop) (drop : Bool) (m : Part), m.stop r.number = some r → Table.Canonical m.dir.ways →
    m.stops.sweep.length ≤ 1024 → m.tamper.alerts.length ≤ 32 →
    let c := m.closeStop r drop
    ∃ unread : List (Nat × Member),
      unread.Perm (m.dir.ways.filter (fun e => e.2.stop == r.number && e.2.readState == .unread)) ∧
      unread.Pairwise (fun a b => b.2.key.before a.2.key = false) ∧
      let room := if drop then 0 else 1024 - m.stops.sweep.length
      c.carried = min room unread.length ∧ c.missed = unread.length - room ∧
      c.part.stops.sweep = m.stops.sweep ++ (unread.take room).map (fun e => ⟨e.2.key, e.2.stop⟩) ∧
      (∀ p, Table.find c.part.dir.ways p = (Table.find m.dir.ways p).map (fun x =>
        if x.stop = r.number then { x with
          deferred := 0
          readState := (if x.readState = .unread then
            (if (p, x) ∈ unread.take room then .carried else .missed) else x.readState) } else x)) ∧
      (∀ k, Table.find c.part.stops.records k = if k = r.number
        then some { r with state := .closed, slot := none } else Table.find m.stops.records k) ∧
      c.part.stops.order = m.stops.order.filter (fun n => n != r.number) ∧
      (∀ i : Fin 4, c.part.stops.slots[i] = if r.slot = some i then ⟨none, none⟩ else m.stops.slots[i]) ∧
      c.part.dir.counts = { m.dir.counts with
        unread := m.dir.counts.unread - unread.length
        carried := m.dir.counts.carried + min room unread.length
        missed := m.dir.counts.missed + (unread.length - room) } ∧
      c.part.tamper = (m.reportStop r.number).tamper ∧
      c.part.ports = { m.ports with shared := (m.reportStop r.number).ports.shared |||
        (if drop = false ∧ room < unread.length then evSweepOverflow else 0) } ∧
      c.part.route = m.route ∧ c.part.store = m.store ∧ c.part.intake = m.intake ∧
      c.part.strangers = m.strangers ∧ c.part.upload = m.upload ∧ c.part.profiles = m.profiles ∧
      c.part.power = m.power ∧ c.part.choices = m.choices

/-- SKIP SWEEP in RUNNING and not held (R122, R12, R17): EMPTY on an empty list; otherwise the head entry leaves the list, its member becomes MISSED, the counts follow, and the answer gives the entry and the list's count. -/
def Obligations.SkipSweepGivesUpTheHead : Prop :=
  ∀ (tag : Byte) (s : State), Ready s .cab → s.part.route.state = .running →
    s.part.tamper.stalled = false ∨ s.part.tamper.pass = true →
    (s.part.stops.sweep = [] → Becomes (.skipSweep tag []) s (s.part.answer .cab tag .empty .none)) ∧
    ∀ e rest p r, s.part.stops.sweep = e :: rest → Table.Canonical s.part.dir.ways →
      s.part.dir.lookup e.key = some (p, r) → Becomes (.skipSweep tag []) s
        (Part.answer .cab tag .ok (.skipped e rest.length) { s.part with
          stops := { s.part.stops with sweep := rest }
          dir :=
            { ways := Table.put p { r with readState := .missed } s.part.dir.ways
              counts := (s.part.dir.counts.lower r.readState).raise .missed } })

/-! ## Reads, queries, events -/

/-- READ STOP, READ SWEEP, READ ALERT, READ MEMBER and READ STRANGERS (R125, R123, R101, R16, R139): taken in every route state whatever STALLED holds, each answers what stands, or NOT_FOUND, and changes nothing. -/
def Obligations.ReadsChangeNothing : Prop :=
  ∀ (tag : Byte) (body : List Byte) (s : State),
    (Ready s .cab →
      (∀ n, stopOf body = some n →
        (s.part.stop n = none → Becomes (.readStop tag body) s (s.part.answer .cab tag .notFound .none)) ∧
        ∀ r, s.part.stop n = some r → Becomes (.readStop tag body) s (s.part.answer .cab tag .ok
          (.stop r (if r.state = .lingering then r.slot.bind (fun i => s.part.stops.slots[i].timer.map Timer.left) else none)
            (s.part.stops.order.getLast? == some r.number)))) ∧
      Becomes (.readSweep tag []) s (s.part.answer .cab tag .ok
        (.sweep s.part.stops.sweep.length (s.part.stops.sweep.take 8))) ∧
      ∀ place : Nat, place ≤ 31 → Becomes (.readAlert tag (be8 place)) s (s.part.answer .cab tag .ok
        (.alerts s.part.tamper.alerts.length s.part.tamper.stalled s.part.tamper.pass
          ((s.part.tamper.alerts.drop place).take 8)))) ∧
    ∀ p : HostPort, Ready s (portLine p) →
      (∀ k, readMemberOf body = some k →
        (s.part.dir.lookup k = none → Becomes (.readMember p tag body) s (s.part.answer p tag .notFound .none)) ∧
        ∀ position r, s.part.dir.lookup k = some (position, r) →
          Becomes (.readMember p tag body) s (s.part.answer p tag .ok (.member position r))) ∧
      ∀ start : Nat, start ≤ 255 →
        let given := (s.part.strangers.entries.filter (fun e => decide (start ≤ e.1))).take 8
        ∃ next, (given.length < 8 → next = 256) ∧
          (∀ e, given.length = 8 → given.getLast? = some e → next = e.1 + 1) ∧
          Becomes (.readStrangers p tag (be16 start)) s (s.part.answer p tag .ok
            (.strangers s.part.strangers.count
              (given.map (fun e => ⟨e.1, s.part.strangers.tree e.2.key, e.2⟩)) next))

/-- READ STATE (R193): in every route state it answers every figure of R193's table as it stands, and changes nothing else; a body that is not empty is refused with BAD_VALUE; on a
line that is not taken, as the depot's is while UNDOCKED, the request is discarded with no response. -/
def Obligations.ReadStateReportsEveryFigure : Prop :=
  (∀ (p : HostPort) (tag : Byte) (body : List Byte) (s : State),
    (s.part.listening (portLine p) = false → Becomes (.readState p tag body) s s.part) ∧
    (Ready s (portLine p) → body ≠ [] → body.length + 2 ≤ 64 →
      Becomes (.readState p tag body) s (s.part.answer p tag .badValue .none))) ∧
  (∀ m : Part, m.ports.dock = .undocked → m.listening .depot = false) ∧
  ∀ (p : HostPort) (tag : Byte) (s : State), Ready s (portLine p) →
    let m := s.part
    let inState := fun q : StopState => m.stops.records.countP (fun e => e.2.state == q)
    let items := fun q : UploadState => m.upload.items.countP (fun i => m.itemState i == q)
    Becomes (.readState p tag []) s (m.answer p tag .ok (.state
      { routeState := m.route.state, clock := m.route.clock, stopsLoaded := m.route.stopsLoaded
        profilesLoaded := m.route.profilesLoaded, classesLoaded := m.route.classesLoaded
        counts := m.dir.counts
        intakeCount := m.intake.queue.length, evaluating := m.intake.eval.isSome, records := m.store.length
        sweepCount := m.stops.sweep.length, slotStops := m.stops.slots.toList.map Slot.stop
        leadStop := m.stops.order.getLast?
        stopsPending := inState .pending, stopsOpen := inState .opened
        stopsLinger := inState .lingering, stopsClosed := inState .closed
        alertCount := m.tamper.alerts.length, stalled := m.tamper.stalled, pass := m.tamper.pass
        strangerCount := m.strangers.count, scanInFlight := (m.port p).scan.isSome
        order := m.upload.order.map (fun o => ⟨o.length, items .fresh, items .batched, items .confirmed⟩)
        batches := m.upload.batches.map (fun b => ⟨b.number, b.items.length, b.timer.left⟩)
        batchCounter := m.upload.counter
        dock := m.ports.dock, view := m.ports.shared ||| (m.port p).locals, mask := (m.port p).mask
        alertLine := decide ((m.ports.shared ||| (m.port p).locals) &&& (m.port p).mask ≠ 0) }))

/-- QUERY MEMBERS outside EMPTY and SCAN_REACH (R145 to R149): BUSY while the port's own scan is in flight or its response waits; END at once for an empty selection; otherwise the context takes tag, selection and cursor and no response is sent. Each reach
tests the one position, appends a match as it stands, and completes at the sixteenth match or past position 8,191; the directory is never written. That the command has no effect with no scan in flight is the model's choice (log 4). -/
def Obligations.QueriesScanTheDirectory : Prop :=
  (∀ (q : Selection) (r : Member), q.fits r = true ↔
    q.readStates.getLsbD (readStateCode r.readState) = true ∧ q.tamperStates.getLsbD (tamperStateCode r.tamper) = true ∧
    q.kinds.getLsbD (kindCode r.key.kind - 1) = true ∧
    q.histories.getLsbD (if r.prior = none then 1 else 0) = true ∧ (q.stop = none ∨ q.stop = some r.stop)) ∧
  (∀ (p : HostPort) (tag : Byte) (body : List Byte) (s : State), Ready s (portLine p) → s.part.route.state ≠ .empty →
    ((∃ c, (s.part.port p).scan = some c) ∨ (∃ x ∈ (s.part.port p).link.out, x.scan = true) →
      body.length + 2 ≤ 64 → Becomes (.queryMembers p tag body) s (s.part.answer p tag .busy .none)) ∧
    ((s.part.port p).scan = none → (∀ x ∈ (s.part.port p).link.out, x.scan = false) →
      ∀ q start, queryOf body = some (q, start) →
        (q.readStates = 0 ∨ q.tamperStates = 0 ∨ q.kinds = 0 ∨ q.histories = 0 →
          Becomes (.queryMembers p tag body) s (s.part.answer p tag .ok (.found [] 8192))) ∧
        (q.readStates ≠ 0 → q.tamperStates ≠ 0 → q.kinds ≠ 0 → q.histories ≠ 0 →
          Becomes (.queryMembers p tag body) s
            (s.part.onPort p (fun k => { k with scan := some ⟨tag, q, start, []⟩ }))))) ∧
  ∀ (p : HostPort) (s : State), s.part.alive = true →
    ((s.part.port p).scan = none → Becomes (.scanReach p) s s.part) ∧
    ∀ c, (s.part.port p).scan = some c →
      let found := match Table.find s.part.dir.ways c.next with
        | none => c.found
        | some r => if c.selection.fits r
          then c.found ++ [⟨c.next, r.key, r.stop, r.readState, r.tamper⟩] else c.found
      (found.length < 16 → c.next < 8191 → Becomes (.scanReach p) s
        (s.part.onPort p (fun k => { k with scan := some { c with next := c.next + 1, found := found } }))) ∧
      (16 ≤ found.length ∨ 8191 ≤ c.next → Becomes (.scanReach p) s
        (s.part.onPort p (fun k => { k with
          scan := none
          link := { k.link with out := k.link.out ++ [⟨.ok, c.tag, .found found (c.next + 1), true⟩] } })))

/-- CLEAR EVENTS and SET MASK (R189 to R191): named shared events leave both views and named local events the asking port's; the mask is replaced; the answer gives the port's view and mask; nothing else changes. An alert line is asserted exactly when view and mask
share an event. -/
def Obligations.EventsClearedAndMasked : Prop :=
  (∀ (m : Part) (p : HostPort), m.alertLine p = true ↔
    ∃ b : Nat, b < 11 ∧ (m.ports.shared ||| (m.port p).locals).getLsbD b = true ∧ (m.port p).mask.getLsbD b = true) ∧
  ∀ (p : HostPort) (tag : Byte) (body : List Byte) (e : EventSet) (s : State), Ready s (portLine p) →
    eventsOf p body = some e →
    Becomes (.clearEvents p tag body) s
      (Part.answer p tag .ok
        (.events ((s.part.ports.shared ||| (s.part.port p).locals) &&& ~~~e) (s.part.port p).mask)
        (Part.onPort p (fun k => { k with locals := k.locals &&& ~~~e })
          { s.part with ports := { s.part.ports with shared := s.part.ports.shared &&& ~~~e } })) ∧
    Becomes (.setMask p tag body) s
      ((s.part.onPort p (fun k => { k with mask := e })).answer p tag .ok
        (.events (s.part.ports.shared ||| (s.part.port p).locals) e))

/-! ## Lines, restarts, time -/

/-- The dock line (R184, R172): a rising makes the status DOCKED and sets DOCKED; a falling makes it UNDOCKED, discards the depot port's frames and responses, frees the depot scan, keeps its mask and view, and returns every outstanding batch, with BATCH_RETURNED if
there was one. That a repeated edge is a fresh event is the model's choice (log 8), and that the level alone changes while the part does not run, on either edge, the model infers (log 9). -/
def Obligations.DockLineMoves : Prop :=
  ∀ s : State,
    (s.part.alive = false →
      Becomes .dockLineRising s { s.part with ports := { s.part.ports with dockLine := true } } ∧
      Becomes .dockLineFalling s { s.part with ports := { s.part.ports with dockLine := false } }) ∧
    (s.part.alive = true →
      Becomes .dockLineRising s (Part.setLocal .depot evDocked
        { s.part with ports := { s.part.ports with dockLine := true, dock := .docked } }) ∧
      ∃ m : Part,
        Part.ItemsMoved { s.part with ports := { s.part.ports with
          dockLine := false
          dock := .undocked
          depot := { s.part.ports.depot with
            scan := none
            link := { s.part.ports.depot.link with rx := .collecting [], held := none, out := [] } } } } m
          (s.part.upload.batches.flatMap Batch.items) .fresh none ∧
        m.upload.batches = [] ∧ m.upload.counter = s.part.upload.counter ∧
        Becomes .dockLineFalling s (if s.part.upload.batches = [] then m else m.setShared evBatchReturned))

/-- The port reset lines (R198, R199, R173, R154, R100): an assertion clears its own port's frames, responses, local events, mask and scan; the cab's also puts PASS off, the depot's returns every outstanding batch; a release changes the line alone. The two resets
may be made in either order with the same result; that this holds for a part that does not run as well is the model's inference (log 9), and a repeated assertion a fresh event its choice (log 8). -/
def Obligations.PortResetsClearTheirPort : Prop :=
  (∀ s : State,
    (s.part.alive = true →
      Becomes .cabPortReset s { s.part with
        tamper := { s.part.tamper with pass := false }
        ports := { s.part.ports with cab :=
          ⟨{ s.part.ports.cab.link with rx := .collecting [], held := none, out := [] }, 0, 0, none, true⟩ } } ∧
      ∃ m : Part,
        Part.ItemsMoved { s.part with ports := { s.part.ports with depot :=
          ⟨{ s.part.ports.depot.link with rx := .collecting [], held := none, out := [] }, 0, 0, none, true⟩ } } m
          (s.part.upload.batches.flatMap Batch.items) .fresh none ∧
        m.upload.batches = [] ∧ m.upload.counter = s.part.upload.counter ∧
        Becomes .depotPortReset s (if s.part.upload.batches = [] then m else m.setShared evBatchReturned)) ∧
    Becomes .cabPortResetRelease s { s.part with ports := { s.part.ports with
      cab := { s.part.ports.cab with resetHeld := false } } } ∧
    Becomes .depotPortResetRelease s { s.part with ports := { s.part.ports with
      depot := { s.part.ports.depot with resetHeld := false } } }) ∧
  ∀ s t u : State, exec .cabPortReset s = .next t → exec .depotPortReset s = .next u →
    exec .depotPortReset t = exec .cabPortReset u

/-- POWER_UP, POWER_LOSS, RESET and RESET_RELEASE (R194 to R197): memory not kept, or a marker INVALID, makes a cold start; a VALID marker a warm restart, which closes each stop in LINGER as CARRY, in ascending stop number; with the RESET line held the start waits for the release; a loss of supply clears what is volatile and keeps what is
retained; RESET restarts warm and holds the part, or, with the marker INVALID, holds it with a cold start due. The form of the power commands, starts held back by the line and the dock
status taken again at the release are the model's choice (log 10), and so is that a loss clears the volatile state at once (log 11) and a repeated assertion restarts again (log 8). -/
def Obligations.PowerAndResetStartThePart : Prop :=
  ∀ s : State,
    let m := s.part
    let cold := Part.cold m.ports.cab.resetHeld m.ports.depot.resetHeld m.ports.dockLine
    (∀ kept : Bool, kept = false ∨ m.power.marker = .invalid →
      (m.power.resetHeld = false → Becomes (.powerUp kept) s (cold false m.choices)) ∧
      (m.power.resetHeld = true → Becomes (.powerUp kept) s { m with
        power := ⟨true, .invalid, true, some .cold⟩ })) ∧
    (m.power.marker = .valid →
      (m.power.resetHeld = false → ∃ n, Becomes (.powerUp true) s n ∧
        m.WarmRestarted n ⟨true, .valid, false, none⟩) ∧
      (m.power.resetHeld = true → Becomes (.powerUp true) s { m with
        power := ⟨true, .valid, true, some .warm⟩ })) ∧
    Becomes .powerLoss s { m with
      power := { m.power with powered := false, due := none }
      intake := ⟨[], none⟩
      tamper := { m.tamper with pass := false }
      ports := { m.ports with
        radio := { m.ports.radio with rx := .collecting [], held := none, out := [] }
        cab := ⟨{ m.ports.cab.link with rx := .collecting [], held := none, out := [] }, 0, 0, none, m.ports.cab.resetHeld⟩
        depot := ⟨{ m.ports.depot.link with rx := .collecting [], held := none, out := [] }, 0, 0, none,
          m.ports.depot.resetHeld⟩
        shared := 0 } } ∧
    (m.power.powered = true → m.power.marker = .valid → ∃ n, Becomes .reset s n ∧
      m.WarmRestarted n { m.power with resetHeld := true }) ∧
    (m.power.powered = true → m.power.marker = .invalid → Becomes .reset s { m with
      power := { m.power with resetHeld := true, due := some .cold }
      intake := ⟨[], none⟩
      tamper := { m.tamper with pass := false }
      ports := { m.ports with
        radio := { m.ports.radio with rx := .collecting [], held := none, out := [] }
        cab := ⟨{ m.ports.cab.link with rx := .collecting [], held := none, out := [] }, 0, 0, none, m.ports.cab.resetHeld⟩
        depot := ⟨{ m.ports.depot.link with rx := .collecting [], held := none, out := [] }, 0, 0, none,
          m.ports.depot.resetHeld⟩
        shared := 0 } }) ∧
    (m.power.powered = false → Becomes .reset s { m with power := { m.power with resetHeld := true } }) ∧
    (m.power.powered = false →
      Becomes .resetRelease s { m with power := { m.power with resetHeld := false, due := none } }) ∧
    (m.power.powered = true →
      (m.power.due = none → Becomes .resetRelease s { m with
        power := { m.power with resetHeld := false }
        ports := { m.ports with dock := if m.ports.dockLine then .docked else .undocked } }) ∧
      (m.power.due = some .cold → Becomes .resetRelease s (cold false m.choices)) ∧
      (m.power.due = some .warm → ∃ n, Becomes .resetRelease s n ∧
        m.WarmRestarted n { m.power with resetHeld := false, due := none }))

/-- END_OF_SECOND (R30, R31, R118, R167): the running clock rises by 1 and holds at 4,294,967,295; every running linger and confirm timer falls by 1, and at the end of its last second is marked due for its expiry (the model's choice, log 4); time passes by
this command alone (log 3); without supply or with the RESET line held nothing counts. -/
def Obligations.SecondsCount : Prop :=
  ∀ s : State, (s.part.alive = false → Becomes .endOfSecond s s.part) ∧
    (s.part.alive = true → ∃ clock slots, Becomes .endOfSecond s { s.part with
        route := { s.part.route with clock := clock }
        stops := { s.part.stops with slots := slots }
        upload := { s.part.upload with
          batches := s.part.upload.batches.map (fun b => { b with timer :=
            if 1 < b.timer.left then ⟨b.timer.left - 1, b.timer.due⟩ else ⟨b.timer.left, true⟩ }) } } ∧
      clock.toNat = (if s.part.route.clockRunning then min (s.part.route.clock.toNat + 1) 4294967295
        else s.part.route.clock.toNat) ∧
      ∀ i : Fin 4, slots[i].stop = s.part.stops.slots[i].stop ∧
        slots[i].timer = s.part.stops.slots[i].timer.map (fun t =>
          if 1 < t.left then ⟨t.left - 1, t.due⟩ else ⟨t.left, true⟩))

/-- Upload items on the line (R203, R200): the fields of a reading, a miss and a stranger item in their order and widths, 42, 12 and 21 bytes with the item number and the group code. -/
def Obligations.UploadItemsLaidOut : Prop :=
  (∀ (n : Nat) (r : Record),
    be16 n ++ itemBytes (.reading r) = be16 n ++ [1] ++ be16 r.index ++ be32 r.key.number ++
      be8 (kindCode r.key.kind) ++ be32 r.counter ++ be32 r.time ++ be32 r.firstHeard ++
      be16 (r.leadStop.getD 0xFFFF) ++ be8 r.hearings ++ [r.signal] ++ [if r.batteryLow then 1 else 0] ++
      be16 r.indicators.toNat ++ be8 r.fired.toNat ++
      [if r.rate.isSome then 1 else 0] ++ be32 (r.rate.getD 0) ++ be32 (r.ceiling.getD 0) ++
      be8 (uploadStateCode r.upload) ++ be16 (r.batch.getD 0) ∧
    (be16 n ++ itemBytes (.reading r)).length = 42) ∧
  (∀ (n : Nat) (k : Key) (stop : Nat) (t : TamperState) (latched : ClassSet),
    be16 n ++ itemBytes (.miss k stop t latched) = be16 n ++ [2] ++ be32 k.number ++ be8 (kindCode k.kind) ++
      be16 stop ++ be8 (tamperStateCode t) ++ be8 latched.toNat ∧
    (be16 n ++ itemBytes (.miss k stop t latched)).length = 12) ∧
  (∀ (n p : Nat) (e : Stranger),
    be16 n ++ itemBytes (.stranger p e) = be16 n ++ [3] ++ be8 p ++ be32 e.key.number ++ be8 (kindCode e.key.kind) ++
      be8 e.hearings ++ be32 e.firstHeard ++ be16 (e.firstStop.getD 0xFFFF) ++ be32 e.counter ++ [e.signal] ∧
    (be16 n ++ itemBytes (.stranger p e)).length = 21) ∧
  ∀ (number : Nat) (items : List (Nat × ItemContent)), bodyBytes (.batch number items) =
    be16 number ++ [20] ++ be8 items.length ++ items.flatMap (fun e => be16 e.1 ++ itemBytes e.2)
end

