-- ==== Sys2Proof/Laws/State.lean ====
section
/-! SUPPORT. What each named update of the part leaves as it was, one lemma for each field, so that no later proof unfolds
a record update. -/

namespace Sys2Proof.Machine

/-! `Part.onPort` -/

@[simp] theorem Part.onPort_route (m : Part) (p : HostPort) (f : PortState → PortState) :
    (m.onPort p f).route = m.route := by cases p <;> rfl
@[simp] theorem Part.onPort_dir (m : Part) (p : HostPort) (f : PortState → PortState) :
    (m.onPort p f).dir = m.dir := by cases p <;> rfl
@[simp] theorem Part.onPort_profiles (m : Part) (p : HostPort) (f : PortState → PortState) :
    (m.onPort p f).profiles = m.profiles := by cases p <;> rfl
@[simp] theorem Part.onPort_tamper (m : Part) (p : HostPort) (f : PortState → PortState) :
    (m.onPort p f).tamper = m.tamper := by cases p <;> rfl
@[simp] theorem Part.onPort_stops (m : Part) (p : HostPort) (f : PortState → PortState) :
    (m.onPort p f).stops = m.stops := by cases p <;> rfl
@[simp] theorem Part.onPort_intake (m : Part) (p : HostPort) (f : PortState → PortState) :
    (m.onPort p f).intake = m.intake := by cases p <;> rfl
@[simp] theorem Part.onPort_store (m : Part) (p : HostPort) (f : PortState → PortState) :
    (m.onPort p f).store = m.store := by cases p <;> rfl
@[simp] theorem Part.onPort_strangers (m : Part) (p : HostPort) (f : PortState → PortState) :
    (m.onPort p f).strangers = m.strangers := by cases p <;> rfl
@[simp] theorem Part.onPort_upload (m : Part) (p : HostPort) (f : PortState → PortState) :
    (m.onPort p f).upload = m.upload := by cases p <;> rfl
@[simp] theorem Part.onPort_power (m : Part) (p : HostPort) (f : PortState → PortState) :
    (m.onPort p f).power = m.power := by cases p <;> rfl
@[simp] theorem Part.onPort_choices (m : Part) (p : HostPort) (f : PortState → PortState) :
    (m.onPort p f).choices = m.choices := by cases p <;> rfl
@[simp] theorem Part.onPort_radio (m : Part) (p : HostPort) (f : PortState → PortState) :
    (m.onPort p f).ports.radio = m.ports.radio := by cases p <;> rfl
@[simp] theorem Part.onPort_shared (m : Part) (p : HostPort) (f : PortState → PortState) :
    (m.onPort p f).ports.shared = m.ports.shared := by cases p <;> rfl
@[simp] theorem Part.onPort_dockLine (m : Part) (p : HostPort) (f : PortState → PortState) :
    (m.onPort p f).ports.dockLine = m.ports.dockLine := by cases p <;> rfl
@[simp] theorem Part.onPort_dock (m : Part) (p : HostPort) (f : PortState → PortState) :
    (m.onPort p f).ports.dock = m.ports.dock := by cases p <;> rfl

/-! `Part.onLink` -/

@[simp] theorem Part.onLink_route (m : Part) (l : Line) (f : Link → Link) :
    (m.onLink l f).route = m.route := by cases l <;> rfl
@[simp] theorem Part.onLink_dir (m : Part) (l : Line) (f : Link → Link) :
    (m.onLink l f).dir = m.dir := by cases l <;> rfl
@[simp] theorem Part.onLink_profiles (m : Part) (l : Line) (f : Link → Link) :
    (m.onLink l f).profiles = m.profiles := by cases l <;> rfl
@[simp] theorem Part.onLink_tamper (m : Part) (l : Line) (f : Link → Link) :
    (m.onLink l f).tamper = m.tamper := by cases l <;> rfl
@[simp] theorem Part.onLink_stops (m : Part) (l : Line) (f : Link → Link) :
    (m.onLink l f).stops = m.stops := by cases l <;> rfl
@[simp] theorem Part.onLink_intake (m : Part) (l : Line) (f : Link → Link) :
    (m.onLink l f).intake = m.intake := by cases l <;> rfl
@[simp] theorem Part.onLink_store (m : Part) (l : Line) (f : Link → Link) :
    (m.onLink l f).store = m.store := by cases l <;> rfl
@[simp] theorem Part.onLink_strangers (m : Part) (l : Line) (f : Link → Link) :
    (m.onLink l f).strangers = m.strangers := by cases l <;> rfl
@[simp] theorem Part.onLink_upload (m : Part) (l : Line) (f : Link → Link) :
    (m.onLink l f).upload = m.upload := by cases l <;> rfl
@[simp] theorem Part.onLink_power (m : Part) (l : Line) (f : Link → Link) :
    (m.onLink l f).power = m.power := by cases l <;> rfl
@[simp] theorem Part.onLink_choices (m : Part) (l : Line) (f : Link → Link) :
    (m.onLink l f).choices = m.choices := by cases l <;> rfl
@[simp] theorem Part.onLink_shared (m : Part) (l : Line) (f : Link → Link) :
    (m.onLink l f).ports.shared = m.ports.shared := by cases l <;> rfl
@[simp] theorem Part.onLink_dockLine (m : Part) (l : Line) (f : Link → Link) :
    (m.onLink l f).ports.dockLine = m.ports.dockLine := by cases l <;> rfl
@[simp] theorem Part.onLink_dock (m : Part) (l : Line) (f : Link → Link) :
    (m.onLink l f).ports.dock = m.ports.dock := by cases l <;> rfl

/-! `Part.send` -/

@[simp] theorem Part.send_route (m : Part) (l : Line) (r : Response) :
    (m.send l r).route = m.route := by cases l <;> rfl
@[simp] theorem Part.send_dir (m : Part) (l : Line) (r : Response) :
    (m.send l r).dir = m.dir := by cases l <;> rfl
@[simp] theorem Part.send_profiles (m : Part) (l : Line) (r : Response) :
    (m.send l r).profiles = m.profiles := by cases l <;> rfl
@[simp] theorem Part.send_tamper (m : Part) (l : Line) (r : Response) :
    (m.send l r).tamper = m.tamper := by cases l <;> rfl
@[simp] theorem Part.send_stops (m : Part) (l : Line) (r : Response) :
    (m.send l r).stops = m.stops := by cases l <;> rfl
@[simp] theorem Part.send_intake (m : Part) (l : Line) (r : Response) :
    (m.send l r).intake = m.intake := by cases l <;> rfl
@[simp] theorem Part.send_store (m : Part) (l : Line) (r : Response) :
    (m.send l r).store = m.store := by cases l <;> rfl
@[simp] theorem Part.send_strangers (m : Part) (l : Line) (r : Response) :
    (m.send l r).strangers = m.strangers := by cases l <;> rfl
@[simp] theorem Part.send_upload (m : Part) (l : Line) (r : Response) :
    (m.send l r).upload = m.upload := by cases l <;> rfl
@[simp] theorem Part.send_power (m : Part) (l : Line) (r : Response) :
    (m.send l r).power = m.power := by cases l <;> rfl
@[simp] theorem Part.send_choices (m : Part) (l : Line) (r : Response) :
    (m.send l r).choices = m.choices := by cases l <;> rfl
@[simp] theorem Part.send_shared (m : Part) (l : Line) (r : Response) :
    (m.send l r).ports.shared = m.ports.shared := by cases l <;> rfl
@[simp] theorem Part.send_dockLine (m : Part) (l : Line) (r : Response) :
    (m.send l r).ports.dockLine = m.ports.dockLine := by cases l <;> rfl
@[simp] theorem Part.send_dock (m : Part) (l : Line) (r : Response) :
    (m.send l r).ports.dock = m.ports.dock := by cases l <;> rfl

/-! `Part.answer` -/

@[simp] theorem Part.answer_route (m : Part) (p : HostPort) (tag : Byte) (code : ReplyCode) (body : Reply) :
    (m.answer p tag code body).route = m.route := by cases p <;> rfl
@[simp] theorem Part.answer_dir (m : Part) (p : HostPort) (tag : Byte) (code : ReplyCode) (body : Reply) :
    (m.answer p tag code body).dir = m.dir := by cases p <;> rfl
@[simp] theorem Part.answer_profiles (m : Part) (p : HostPort) (tag : Byte) (code : ReplyCode) (body : Reply) :
    (m.answer p tag code body).profiles = m.profiles := by cases p <;> rfl
@[simp] theorem Part.answer_tamper (m : Part) (p : HostPort) (tag : Byte) (code : ReplyCode) (body : Reply) :
    (m.answer p tag code body).tamper = m.tamper := by cases p <;> rfl
@[simp] theorem Part.answer_stops (m : Part) (p : HostPort) (tag : Byte) (code : ReplyCode) (body : Reply) :
    (m.answer p tag code body).stops = m.stops := by cases p <;> rfl
@[simp] theorem Part.answer_intake (m : Part) (p : HostPort) (tag : Byte) (code : ReplyCode) (body : Reply) :
    (m.answer p tag code body).intake = m.intake := by cases p <;> rfl
@[simp] theorem Part.answer_store (m : Part) (p : HostPort) (tag : Byte) (code : ReplyCode) (body : Reply) :
    (m.answer p tag code body).store = m.store := by cases p <;> rfl
@[simp] theorem Part.answer_strangers (m : Part) (p : HostPort) (tag : Byte) (code : ReplyCode) (body : Reply) :
    (m.answer p tag code body).strangers = m.strangers := by cases p <;> rfl
@[simp] theorem Part.answer_upload (m : Part) (p : HostPort) (tag : Byte) (code : ReplyCode) (body : Reply) :
    (m.answer p tag code body).upload = m.upload := by cases p <;> rfl
@[simp] theorem Part.answer_power (m : Part) (p : HostPort) (tag : Byte) (code : ReplyCode) (body : Reply) :
    (m.answer p tag code body).power = m.power := by cases p <;> rfl
@[simp] theorem Part.answer_choices (m : Part) (p : HostPort) (tag : Byte) (code : ReplyCode) (body : Reply) :
    (m.answer p tag code body).choices = m.choices := by cases p <;> rfl
@[simp] theorem Part.answer_radio (m : Part) (p : HostPort) (tag : Byte) (code : ReplyCode) (body : Reply) :
    (m.answer p tag code body).ports.radio = m.ports.radio := by cases p <;> rfl
@[simp] theorem Part.answer_shared (m : Part) (p : HostPort) (tag : Byte) (code : ReplyCode) (body : Reply) :
    (m.answer p tag code body).ports.shared = m.ports.shared := by cases p <;> rfl
@[simp] theorem Part.answer_dockLine (m : Part) (p : HostPort) (tag : Byte) (code : ReplyCode) (body : Reply) :
    (m.answer p tag code body).ports.dockLine = m.ports.dockLine := by cases p <;> rfl
@[simp] theorem Part.answer_dock (m : Part) (p : HostPort) (tag : Byte) (code : ReplyCode) (body : Reply) :
    (m.answer p tag code body).ports.dock = m.ports.dock := by cases p <;> rfl

/-! `Part.refuse` -/

@[simp] theorem Part.refuse_route (m : Part) (p : HostPort) (tag : Byte) (code : ReplyCode) :
    (m.refuse p tag code).route = m.route := by cases p <;> rfl
@[simp] theorem Part.refuse_dir (m : Part) (p : HostPort) (tag : Byte) (code : ReplyCode) :
    (m.refuse p tag code).dir = m.dir := by cases p <;> rfl
@[simp] theorem Part.refuse_profiles (m : Part) (p : HostPort) (tag : Byte) (code : ReplyCode) :
    (m.refuse p tag code).profiles = m.profiles := by cases p <;> rfl
@[simp] theorem Part.refuse_tamper (m : Part) (p : HostPort) (tag : Byte) (code : ReplyCode) :
    (m.refuse p tag code).tamper = m.tamper := by cases p <;> rfl
@[simp] theorem Part.refuse_stops (m : Part) (p : HostPort) (tag : Byte) (code : ReplyCode) :
    (m.refuse p tag code).stops = m.stops := by cases p <;> rfl
@[simp] theorem Part.refuse_intake (m : Part) (p : HostPort) (tag : Byte) (code : ReplyCode) :
    (m.refuse p tag code).intake = m.intake := by cases p <;> rfl
@[simp] theorem Part.refuse_store (m : Part) (p : HostPort) (tag : Byte) (code : ReplyCode) :
    (m.refuse p tag code).store = m.store := by cases p <;> rfl
@[simp] theorem Part.refuse_strangers (m : Part) (p : HostPort) (tag : Byte) (code : ReplyCode) :
    (m.refuse p tag code).strangers = m.strangers := by cases p <;> rfl
@[simp] theorem Part.refuse_upload (m : Part) (p : HostPort) (tag : Byte) (code : ReplyCode) :
    (m.refuse p tag code).upload = m.upload := by cases p <;> rfl
@[simp] theorem Part.refuse_power (m : Part) (p : HostPort) (tag : Byte) (code : ReplyCode) :
    (m.refuse p tag code).power = m.power := by cases p <;> rfl
@[simp] theorem Part.refuse_choices (m : Part) (p : HostPort) (tag : Byte) (code : ReplyCode) :
    (m.refuse p tag code).choices = m.choices := by cases p <;> rfl
@[simp] theorem Part.refuse_radio (m : Part) (p : HostPort) (tag : Byte) (code : ReplyCode) :
    (m.refuse p tag code).ports.radio = m.ports.radio := by cases p <;> rfl
@[simp] theorem Part.refuse_shared (m : Part) (p : HostPort) (tag : Byte) (code : ReplyCode) :
    (m.refuse p tag code).ports.shared = m.ports.shared := by cases p <;> rfl
@[simp] theorem Part.refuse_dockLine (m : Part) (p : HostPort) (tag : Byte) (code : ReplyCode) :
    (m.refuse p tag code).ports.dockLine = m.ports.dockLine := by cases p <;> rfl
@[simp] theorem Part.refuse_dock (m : Part) (p : HostPort) (tag : Byte) (code : ReplyCode) :
    (m.refuse p tag code).ports.dock = m.ports.dock := by cases p <;> rfl

/-! `Part.answerRadio` -/

@[simp] theorem Part.answerRadio_route (m : Part) (tag : Byte) (code : ReplyCode) :
    (m.answerRadio tag code).route = m.route := by rfl
@[simp] theorem Part.answerRadio_dir (m : Part) (tag : Byte) (code : ReplyCode) :
    (m.answerRadio tag code).dir = m.dir := by rfl
@[simp] theorem Part.answerRadio_profiles (m : Part) (tag : Byte) (code : ReplyCode) :
    (m.answerRadio tag code).profiles = m.profiles := by rfl
@[simp] theorem Part.answerRadio_tamper (m : Part) (tag : Byte) (code : ReplyCode) :
    (m.answerRadio tag code).tamper = m.tamper := by rfl
@[simp] theorem Part.answerRadio_stops (m : Part) (tag : Byte) (code : ReplyCode) :
    (m.answerRadio tag code).stops = m.stops := by rfl
@[simp] theorem Part.answerRadio_intake (m : Part) (tag : Byte) (code : ReplyCode) :
    (m.answerRadio tag code).intake = m.intake := by rfl
@[simp] theorem Part.answerRadio_store (m : Part) (tag : Byte) (code : ReplyCode) :
    (m.answerRadio tag code).store = m.store := by rfl
@[simp] theorem Part.answerRadio_strangers (m : Part) (tag : Byte) (code : ReplyCode) :
    (m.answerRadio tag code).strangers = m.strangers := by rfl
@[simp] theorem Part.answerRadio_upload (m : Part) (tag : Byte) (code : ReplyCode) :
    (m.answerRadio tag code).upload = m.upload := by rfl
@[simp] theorem Part.answerRadio_power (m : Part) (tag : Byte) (code : ReplyCode) :
    (m.answerRadio tag code).power = m.power := by rfl
@[simp] theorem Part.answerRadio_choices (m : Part) (tag : Byte) (code : ReplyCode) :
    (m.answerRadio tag code).choices = m.choices := by rfl
@[simp] theorem Part.answerRadio_cab (m : Part) (tag : Byte) (code : ReplyCode) :
    (m.answerRadio tag code).ports.cab = m.ports.cab := by rfl
@[simp] theorem Part.answerRadio_depot (m : Part) (tag : Byte) (code : ReplyCode) :
    (m.answerRadio tag code).ports.depot = m.ports.depot := by rfl
@[simp] theorem Part.answerRadio_shared (m : Part) (tag : Byte) (code : ReplyCode) :
    (m.answerRadio tag code).ports.shared = m.ports.shared := by rfl
@[simp] theorem Part.answerRadio_dockLine (m : Part) (tag : Byte) (code : ReplyCode) :
    (m.answerRadio tag code).ports.dockLine = m.ports.dockLine := by rfl
@[simp] theorem Part.answerRadio_dock (m : Part) (tag : Byte) (code : ReplyCode) :
    (m.answerRadio tag code).ports.dock = m.ports.dock := by rfl

/-! `Part.setShared` -/

@[simp] theorem Part.setShared_route (m : Part) (e : EventSet) :
    (m.setShared e).route = m.route := by rfl
@[simp] theorem Part.setShared_dir (m : Part) (e : EventSet) :
    (m.setShared e).dir = m.dir := by rfl
@[simp] theorem Part.setShared_profiles (m : Part) (e : EventSet) :
    (m.setShared e).profiles = m.profiles := by rfl
@[simp] theorem Part.setShared_tamper (m : Part) (e : EventSet) :
    (m.setShared e).tamper = m.tamper := by rfl
@[simp] theorem Part.setShared_stops (m : Part) (e : EventSet) :
    (m.setShared e).stops = m.stops := by rfl
@[simp] theorem Part.setShared_intake (m : Part) (e : EventSet) :
    (m.setShared e).intake = m.intake := by rfl
@[simp] theorem Part.setShared_store (m : Part) (e : EventSet) :
    (m.setShared e).store = m.store := by rfl
@[simp] theorem Part.setShared_strangers (m : Part) (e : EventSet) :
    (m.setShared e).strangers = m.strangers := by rfl
@[simp] theorem Part.setShared_upload (m : Part) (e : EventSet) :
    (m.setShared e).upload = m.upload := by rfl
@[simp] theorem Part.setShared_power (m : Part) (e : EventSet) :
    (m.setShared e).power = m.power := by rfl
@[simp] theorem Part.setShared_choices (m : Part) (e : EventSet) :
    (m.setShared e).choices = m.choices := by rfl
@[simp] theorem Part.setShared_radio (m : Part) (e : EventSet) :
    (m.setShared e).ports.radio = m.ports.radio := by rfl
@[simp] theorem Part.setShared_cab (m : Part) (e : EventSet) :
    (m.setShared e).ports.cab = m.ports.cab := by rfl
@[simp] theorem Part.setShared_depot (m : Part) (e : EventSet) :
    (m.setShared e).ports.depot = m.ports.depot := by rfl
@[simp] theorem Part.setShared_dockLine (m : Part) (e : EventSet) :
    (m.setShared e).ports.dockLine = m.ports.dockLine := by rfl
@[simp] theorem Part.setShared_dock (m : Part) (e : EventSet) :
    (m.setShared e).ports.dock = m.ports.dock := by rfl

/-! `Part.setLocal` -/

@[simp] theorem Part.setLocal_route (m : Part) (p : HostPort) (e : EventSet) :
    (m.setLocal p e).route = m.route := by cases p <;> rfl
@[simp] theorem Part.setLocal_dir (m : Part) (p : HostPort) (e : EventSet) :
    (m.setLocal p e).dir = m.dir := by cases p <;> rfl
@[simp] theorem Part.setLocal_profiles (m : Part) (p : HostPort) (e : EventSet) :
    (m.setLocal p e).profiles = m.profiles := by cases p <;> rfl
@[simp] theorem Part.setLocal_tamper (m : Part) (p : HostPort) (e : EventSet) :
    (m.setLocal p e).tamper = m.tamper := by cases p <;> rfl
@[simp] theorem Part.setLocal_stops (m : Part) (p : HostPort) (e : EventSet) :
    (m.setLocal p e).stops = m.stops := by cases p <;> rfl
@[simp] theorem Part.setLocal_intake (m : Part) (p : HostPort) (e : EventSet) :
    (m.setLocal p e).intake = m.intake := by cases p <;> rfl
@[simp] theorem Part.setLocal_store (m : Part) (p : HostPort) (e : EventSet) :
    (m.setLocal p e).store = m.store := by cases p <;> rfl
@[simp] theorem Part.setLocal_strangers (m : Part) (p : HostPort) (e : EventSet) :
    (m.setLocal p e).strangers = m.strangers := by cases p <;> rfl
@[simp] theorem Part.setLocal_upload (m : Part) (p : HostPort) (e : EventSet) :
    (m.setLocal p e).upload = m.upload := by cases p <;> rfl
@[simp] theorem Part.setLocal_power (m : Part) (p : HostPort) (e : EventSet) :
    (m.setLocal p e).power = m.power := by cases p <;> rfl
@[simp] theorem Part.setLocal_choices (m : Part) (p : HostPort) (e : EventSet) :
    (m.setLocal p e).choices = m.choices := by cases p <;> rfl
@[simp] theorem Part.setLocal_radio (m : Part) (p : HostPort) (e : EventSet) :
    (m.setLocal p e).ports.radio = m.ports.radio := by cases p <;> rfl
@[simp] theorem Part.setLocal_shared (m : Part) (p : HostPort) (e : EventSet) :
    (m.setLocal p e).ports.shared = m.ports.shared := by cases p <;> rfl
@[simp] theorem Part.setLocal_dockLine (m : Part) (p : HostPort) (e : EventSet) :
    (m.setLocal p e).ports.dockLine = m.ports.dockLine := by cases p <;> rfl
@[simp] theorem Part.setLocal_dock (m : Part) (p : HostPort) (e : EventSet) :
    (m.setLocal p e).ports.dock = m.ports.dock := by cases p <;> rfl

/-! `Part.clearEvents` -/

@[simp] theorem Part.clearEvents_route (m : Part) (p : HostPort) (e : EventSet) :
    (m.clearEvents p e).route = m.route := by cases p <;> rfl
@[simp] theorem Part.clearEvents_dir (m : Part) (p : HostPort) (e : EventSet) :
    (m.clearEvents p e).dir = m.dir := by cases p <;> rfl
@[simp] theorem Part.clearEvents_profiles (m : Part) (p : HostPort) (e : EventSet) :
    (m.clearEvents p e).profiles = m.profiles := by cases p <;> rfl
@[simp] theorem Part.clearEvents_tamper (m : Part) (p : HostPort) (e : EventSet) :
    (m.clearEvents p e).tamper = m.tamper := by cases p <;> rfl
@[simp] theorem Part.clearEvents_stops (m : Part) (p : HostPort) (e : EventSet) :
    (m.clearEvents p e).stops = m.stops := by cases p <;> rfl
@[simp] theorem Part.clearEvents_intake (m : Part) (p : HostPort) (e : EventSet) :
    (m.clearEvents p e).intake = m.intake := by cases p <;> rfl
@[simp] theorem Part.clearEvents_store (m : Part) (p : HostPort) (e : EventSet) :
    (m.clearEvents p e).store = m.store := by cases p <;> rfl
@[simp] theorem Part.clearEvents_strangers (m : Part) (p : HostPort) (e : EventSet) :
    (m.clearEvents p e).strangers = m.strangers := by cases p <;> rfl
@[simp] theorem Part.clearEvents_upload (m : Part) (p : HostPort) (e : EventSet) :
    (m.clearEvents p e).upload = m.upload := by cases p <;> rfl
@[simp] theorem Part.clearEvents_power (m : Part) (p : HostPort) (e : EventSet) :
    (m.clearEvents p e).power = m.power := by cases p <;> rfl
@[simp] theorem Part.clearEvents_choices (m : Part) (p : HostPort) (e : EventSet) :
    (m.clearEvents p e).choices = m.choices := by cases p <;> rfl
@[simp] theorem Part.clearEvents_radio (m : Part) (p : HostPort) (e : EventSet) :
    (m.clearEvents p e).ports.radio = m.ports.radio := by cases p <;> rfl
@[simp] theorem Part.clearEvents_dockLine (m : Part) (p : HostPort) (e : EventSet) :
    (m.clearEvents p e).ports.dockLine = m.ports.dockLine := by cases p <;> rfl
@[simp] theorem Part.clearEvents_dock (m : Part) (p : HostPort) (e : EventSet) :
    (m.clearEvents p e).ports.dock = m.ports.dock := by cases p <;> rfl

/-! `Part.setScan` -/

@[simp] theorem Part.setScan_route (m : Part) (p : HostPort) (c : Option Scan) :
    (m.setScan p c).route = m.route := by cases p <;> rfl
@[simp] theorem Part.setScan_dir (m : Part) (p : HostPort) (c : Option Scan) :
    (m.setScan p c).dir = m.dir := by cases p <;> rfl
@[simp] theorem Part.setScan_profiles (m : Part) (p : HostPort) (c : Option Scan) :
    (m.setScan p c).profiles = m.profiles := by cases p <;> rfl
@[simp] theorem Part.setScan_tamper (m : Part) (p : HostPort) (c : Option Scan) :
    (m.setScan p c).tamper = m.tamper := by cases p <;> rfl
@[simp] theorem Part.setScan_stops (m : Part) (p : HostPort) (c : Option Scan) :
    (m.setScan p c).stops = m.stops := by cases p <;> rfl
@[simp] theorem Part.setScan_intake (m : Part) (p : HostPort) (c : Option Scan) :
    (m.setScan p c).intake = m.intake := by cases p <;> rfl
@[simp] theorem Part.setScan_store (m : Part) (p : HostPort) (c : Option Scan) :
    (m.setScan p c).store = m.store := by cases p <;> rfl
@[simp] theorem Part.setScan_strangers (m : Part) (p : HostPort) (c : Option Scan) :
    (m.setScan p c).strangers = m.strangers := by cases p <;> rfl
@[simp] theorem Part.setScan_upload (m : Part) (p : HostPort) (c : Option Scan) :
    (m.setScan p c).upload = m.upload := by cases p <;> rfl
@[simp] theorem Part.setScan_power (m : Part) (p : HostPort) (c : Option Scan) :
    (m.setScan p c).power = m.power := by cases p <;> rfl
@[simp] theorem Part.setScan_choices (m : Part) (p : HostPort) (c : Option Scan) :
    (m.setScan p c).choices = m.choices := by cases p <;> rfl
@[simp] theorem Part.setScan_radio (m : Part) (p : HostPort) (c : Option Scan) :
    (m.setScan p c).ports.radio = m.ports.radio := by cases p <;> rfl
@[simp] theorem Part.setScan_shared (m : Part) (p : HostPort) (c : Option Scan) :
    (m.setScan p c).ports.shared = m.ports.shared := by cases p <;> rfl
@[simp] theorem Part.setScan_dockLine (m : Part) (p : HostPort) (c : Option Scan) :
    (m.setScan p c).ports.dockLine = m.ports.dockLine := by cases p <;> rfl
@[simp] theorem Part.setScan_dock (m : Part) (p : HostPort) (c : Option Scan) :
    (m.setScan p c).ports.dock = m.ports.dock := by cases p <;> rfl

/-! `Part.assemble` -/

@[simp] theorem Part.assemble_route (m : Part) (l : Line) (a : Assembly) :
    (m.assemble l a).route = m.route := by cases l <;> rfl
@[simp] theorem Part.assemble_dir (m : Part) (l : Line) (a : Assembly) :
    (m.assemble l a).dir = m.dir := by cases l <;> rfl
@[simp] theorem Part.assemble_profiles (m : Part) (l : Line) (a : Assembly) :
    (m.assemble l a).profiles = m.profiles := by cases l <;> rfl
@[simp] theorem Part.assemble_tamper (m : Part) (l : Line) (a : Assembly) :
    (m.assemble l a).tamper = m.tamper := by cases l <;> rfl
@[simp] theorem Part.assemble_stops (m : Part) (l : Line) (a : Assembly) :
    (m.assemble l a).stops = m.stops := by cases l <;> rfl
@[simp] theorem Part.assemble_intake (m : Part) (l : Line) (a : Assembly) :
    (m.assemble l a).intake = m.intake := by cases l <;> rfl
@[simp] theorem Part.assemble_store (m : Part) (l : Line) (a : Assembly) :
    (m.assemble l a).store = m.store := by cases l <;> rfl
@[simp] theorem Part.assemble_strangers (m : Part) (l : Line) (a : Assembly) :
    (m.assemble l a).strangers = m.strangers := by cases l <;> rfl
@[simp] theorem Part.assemble_upload (m : Part) (l : Line) (a : Assembly) :
    (m.assemble l a).upload = m.upload := by cases l <;> rfl
@[simp] theorem Part.assemble_power (m : Part) (l : Line) (a : Assembly) :
    (m.assemble l a).power = m.power := by cases l <;> rfl
@[simp] theorem Part.assemble_choices (m : Part) (l : Line) (a : Assembly) :
    (m.assemble l a).choices = m.choices := by cases l <;> rfl
@[simp] theorem Part.assemble_shared (m : Part) (l : Line) (a : Assembly) :
    (m.assemble l a).ports.shared = m.ports.shared := by cases l <;> rfl
@[simp] theorem Part.assemble_dockLine (m : Part) (l : Line) (a : Assembly) :
    (m.assemble l a).ports.dockLine = m.ports.dockLine := by cases l <;> rfl
@[simp] theorem Part.assemble_dock (m : Part) (l : Line) (a : Assembly) :
    (m.assemble l a).ports.dock = m.ports.dock := by cases l <;> rfl

/-! `Part.onStops` -/

@[simp] theorem Part.onStops_route (m : Part) (f : Stops → Stops) :
    (m.onStops f).route = m.route := by rfl
@[simp] theorem Part.onStops_dir (m : Part) (f : Stops → Stops) :
    (m.onStops f).dir = m.dir := by rfl
@[simp] theorem Part.onStops_profiles (m : Part) (f : Stops → Stops) :
    (m.onStops f).profiles = m.profiles := by rfl
@[simp] theorem Part.onStops_tamper (m : Part) (f : Stops → Stops) :
    (m.onStops f).tamper = m.tamper := by rfl
@[simp] theorem Part.onStops_intake (m : Part) (f : Stops → Stops) :
    (m.onStops f).intake = m.intake := by rfl
@[simp] theorem Part.onStops_store (m : Part) (f : Stops → Stops) :
    (m.onStops f).store = m.store := by rfl
@[simp] theorem Part.onStops_strangers (m : Part) (f : Stops → Stops) :
    (m.onStops f).strangers = m.strangers := by rfl
@[simp] theorem Part.onStops_upload (m : Part) (f : Stops → Stops) :
    (m.onStops f).upload = m.upload := by rfl
@[simp] theorem Part.onStops_power (m : Part) (f : Stops → Stops) :
    (m.onStops f).power = m.power := by rfl
@[simp] theorem Part.onStops_choices (m : Part) (f : Stops → Stops) :
    (m.onStops f).choices = m.choices := by rfl
@[simp] theorem Part.onStops_ports (m : Part) (f : Stops → Stops) :
    (m.onStops f).ports = m.ports := by rfl

/-! `Part.onMember` -/

@[simp] theorem Part.onMember_route (m : Part) (n : Nat) (f : Member → Member) :
    (m.onMember n f).route = m.route := by rfl
@[simp] theorem Part.onMember_profiles (m : Part) (n : Nat) (f : Member → Member) :
    (m.onMember n f).profiles = m.profiles := by rfl
@[simp] theorem Part.onMember_tamper (m : Part) (n : Nat) (f : Member → Member) :
    (m.onMember n f).tamper = m.tamper := by rfl
@[simp] theorem Part.onMember_stops (m : Part) (n : Nat) (f : Member → Member) :
    (m.onMember n f).stops = m.stops := by rfl
@[simp] theorem Part.onMember_intake (m : Part) (n : Nat) (f : Member → Member) :
    (m.onMember n f).intake = m.intake := by rfl
@[simp] theorem Part.onMember_store (m : Part) (n : Nat) (f : Member → Member) :
    (m.onMember n f).store = m.store := by rfl
@[simp] theorem Part.onMember_strangers (m : Part) (n : Nat) (f : Member → Member) :
    (m.onMember n f).strangers = m.strangers := by rfl
@[simp] theorem Part.onMember_upload (m : Part) (n : Nat) (f : Member → Member) :
    (m.onMember n f).upload = m.upload := by rfl
@[simp] theorem Part.onMember_power (m : Part) (n : Nat) (f : Member → Member) :
    (m.onMember n f).power = m.power := by rfl
@[simp] theorem Part.onMember_choices (m : Part) (n : Nat) (f : Member → Member) :
    (m.onMember n f).choices = m.choices := by rfl
@[simp] theorem Part.onMember_ports (m : Part) (n : Nat) (f : Member → Member) :
    (m.onMember n f).ports = m.ports := by rfl

/-! `Part.setReadState` -/

@[simp] theorem Part.setReadState_route (m : Part) (n : Nat) (r : ReadState) :
    (m.setReadState n r).route = m.route := by unfold Part.setReadState; split <;> rfl
@[simp] theorem Part.setReadState_profiles (m : Part) (n : Nat) (r : ReadState) :
    (m.setReadState n r).profiles = m.profiles := by unfold Part.setReadState; split <;> rfl
@[simp] theorem Part.setReadState_tamper (m : Part) (n : Nat) (r : ReadState) :
    (m.setReadState n r).tamper = m.tamper := by unfold Part.setReadState; split <;> rfl
@[simp] theorem Part.setReadState_stops (m : Part) (n : Nat) (r : ReadState) :
    (m.setReadState n r).stops = m.stops := by unfold Part.setReadState; split <;> rfl
@[simp] theorem Part.setReadState_intake (m : Part) (n : Nat) (r : ReadState) :
    (m.setReadState n r).intake = m.intake := by unfold Part.setReadState; split <;> rfl
@[simp] theorem Part.setReadState_store (m : Part) (n : Nat) (r : ReadState) :
    (m.setReadState n r).store = m.store := by unfold Part.setReadState; split <;> rfl
@[simp] theorem Part.setReadState_strangers (m : Part) (n : Nat) (r : ReadState) :
    (m.setReadState n r).strangers = m.strangers := by unfold Part.setReadState; split <;> rfl
@[simp] theorem Part.setReadState_upload (m : Part) (n : Nat) (r : ReadState) :
    (m.setReadState n r).upload = m.upload := by unfold Part.setReadState; split <;> rfl
@[simp] theorem Part.setReadState_power (m : Part) (n : Nat) (r : ReadState) :
    (m.setReadState n r).power = m.power := by unfold Part.setReadState; split <;> rfl
@[simp] theorem Part.setReadState_choices (m : Part) (n : Nat) (r : ReadState) :
    (m.setReadState n r).choices = m.choices := by unfold Part.setReadState; split <;> rfl
@[simp] theorem Part.setReadState_ports (m : Part) (n : Nat) (r : ReadState) :
    (m.setReadState n r).ports = m.ports := by unfold Part.setReadState; split <;> rfl

/-! `Part.moveRoute` -/

@[simp] theorem Part.moveRoute_dir (m : Part) (r : RouteState) :
    (m.moveRoute r).dir = m.dir := rfl
@[simp] theorem Part.moveRoute_profiles (m : Part) (r : RouteState) :
    (m.moveRoute r).profiles = m.profiles := rfl
@[simp] theorem Part.moveRoute_tamper (m : Part) (r : RouteState) :
    (m.moveRoute r).tamper = m.tamper := rfl
@[simp] theorem Part.moveRoute_stops (m : Part) (r : RouteState) :
    (m.moveRoute r).stops = m.stops := rfl
@[simp] theorem Part.moveRoute_intake (m : Part) (r : RouteState) :
    (m.moveRoute r).intake = m.intake := rfl
@[simp] theorem Part.moveRoute_store (m : Part) (r : RouteState) :
    (m.moveRoute r).store = m.store := rfl
@[simp] theorem Part.moveRoute_strangers (m : Part) (r : RouteState) :
    (m.moveRoute r).strangers = m.strangers := rfl
@[simp] theorem Part.moveRoute_upload (m : Part) (r : RouteState) :
    (m.moveRoute r).upload = m.upload := rfl
@[simp] theorem Part.moveRoute_power (m : Part) (r : RouteState) :
    (m.moveRoute r).power = m.power := rfl
@[simp] theorem Part.moveRoute_choices (m : Part) (r : RouteState) :
    (m.moveRoute r).choices = m.choices := rfl
@[simp] theorem Part.moveRoute_state (m : Part) (r : RouteState) :
    (m.moveRoute r).route.state = r := rfl
@[simp] theorem Part.moveRoute_shared (m : Part) (r : RouteState) :
    (m.moveRoute r).ports.shared = m.ports.shared ||| evRouteChanged := rfl

/-! Timers -/

@[simp] theorem Timer.start_left (n : Nat) : (Timer.start n).left = n := rfl
@[simp] theorem Timer.start_due (n : Nat) : (Timer.start n).due = false := rfl
@[simp] theorem Slot.tick_stop (s : Slot) : s.tick.stop = s.stop := rfl
@[simp] theorem Slot.tick_timer (s : Slot) : s.tick.timer = s.timer.map Timer.tick := rfl
@[simp] theorem Batch.tick_number (b : Batch) : b.tick.number = b.number := rfl
@[simp] theorem Batch.tick_items (b : Batch) : b.tick.items = b.items := rfl
@[simp] theorem Batch.tick_timer (b : Batch) : b.tick.timer = b.timer.tick := rfl

/-- All the end of a second can do to a running timer: it falls by 1, or, in its last second, it is marked due. -/
theorem Timer.tick_cases (t : Timer) :
    (1 < t.left ∧ t.tick = ⟨t.left - 1, t.due⟩) ∨ (t.left ≤ 1 ∧ t.tick = ⟨t.left, true⟩) := by
  unfold Timer.tick
  split
  · exact .inl ⟨‹_›, rfl⟩
  · exact .inr ⟨by omega, rfl⟩

/-- A running timer keeps within its range of seconds. -/
theorem Timer.tick_range (t : Timer) (n : Nat) (h : 1 ≤ t.left ∧ t.left ≤ n) : 1 ≤ t.tick.left ∧ t.tick.left ≤ n := by
  obtain ⟨_, e⟩ | ⟨_, e⟩ := t.tick_cases <;> rw [e] <;> constructor <;> dsimp only <;> omega

/-! Fields that an update writes -/

@[simp] theorem Part.setShared_shared (m : Part) (e : EventSet) :
    (m.setShared e).ports.shared = m.ports.shared ||| e := rfl
@[simp] theorem Part.onStops_stops (m : Part) (f : Stops → Stops) : (m.onStops f).stops = f m.stops := rfl
@[simp] theorem Part.onMember_ways (m : Part) (n : Nat) (f : Member → Member) :
    (m.onMember n f).dir.ways = Table.modify n f m.dir.ways := rfl
@[simp] theorem Part.onMember_counts (m : Part) (n : Nat) (f : Member → Member) :
    (m.onMember n f).dir.counts = m.dir.counts := rfl
@[simp] theorem Part.link_onLink (m : Part) (l : Line) (f : Link → Link) :
    (m.onLink l f).link l = f (m.link l) := by cases l <;> rfl
theorem Part.link_onLink_of_ne (m : Part) {l k : Line} (f : Link → Link) (h : l ≠ k) :
    (m.onLink l f).link k = m.link k := by cases l <;> cases k <;> first | exact absurd rfl h | rfl
@[simp] theorem Part.port_onPort (m : Part) (p : HostPort) (f : PortState → PortState) :
    (m.onPort p f).port p = f (m.port p) := by cases p <;> rfl
theorem Part.port_onPort_of_ne (m : Part) {p q : HostPort} (f : PortState → PortState) (h : p ≠ q) :
    (m.onPort p f).port q = m.port q := by cases p <;> cases q <;> first | exact absurd rfl h | rfl
@[simp] theorem Part.link_portLine (m : Part) (p : HostPort) : m.link (portLine p) = (m.port p).link := by
  cases p <;> rfl

end Sys2Proof.Machine
end

