-- ==== Sys2Proof/Laws/Events.lean ====
section
/-! SUPPORT. What the shared operations can do, said once: frames that come in, frames that are held, alerts that are offered,
strangers that are heard. -/

namespace Sys2Proof.Machine

theorem Part.accepts_iff (m : Part) (l : Line) :
    m.accepts l = true ↔ m.listening l = true ∧ m.betweenFrames l = true ∧ m.hasRoom l = true := by
  simp [Part.accepts, and_assoc]

/-- A frame that ends on a port that takes it is served at once (R179, R182). -/
theorem frameEvent_ready {l : Line} {f : RxFrame} {m : Part} (h : m.accepts l = true)
    (hf : f.fits = true) (served : Part → Part) : frameEvent l f served m = served m := by
  obtain ⟨h1, h2, h3⟩ := (m.accepts_iff l).mp h
  simp [frameEvent, h1, h2, h3, hf]

/-- A frame that ends while the output queue is full is held (R182, R183). -/
theorem frameEvent_full {l : Line} {f : RxFrame} {m : Part} (h1 : m.listening l = true)
    (h2 : m.betweenFrames l = true) (h3 : m.hasRoom l = false) (hf : f.fits = true)
    (served : Part → Part) :
    frameEvent l f served m = m.onLink l (fun k => { k with held := some f }) := by
  simp [frameEvent, h1, h2, h3, hf]

/-- Where no frame can end now, the frame's bytes meet the line. -/
theorem frameEvent_bytes {l : Line} {f : RxFrame} {m : Part}
    (h : (m.listening l && m.betweenFrames l && f.fits) = false) (served : Part → Part) :
    frameEvent l f served m = receiveFrame l f m := by
  unfold frameEvent
  rw [h]
  rfl

theorem sound_fits {code tag : Byte} {body : List Byte} (h : body.length + 2 ≤ 64) :
    (RxFrame.sound code tag body).fits = true := by
  simpa [RxFrame.sound, RxFrame.fits, Config.greatestLength] using h

/-- A request frame on a port that takes it is served at once. -/
theorem act_request_ready {s : State} {p : HostPort} (h : Ready s (portLine p)) {body : List Byte}
    (hb : body.length + 2 ≤ 64) (r : Request) (tag : Byte) (served : Part → Part) :
    act (requestEvent p r tag body served) s = .next { s with part := served s.part } := by
  simp only [act, requestEvent]
  rw [frameEvent_ready h (sound_fits hb)]

/-- An event the part takes while it runs. -/
theorem act_alive {s : State} (h : s.part.alive = true) (f : Part → Part) :
    act (whileAlive f) s = .next { s with part := f s.part } := by
  simp [act, whileAlive, h]

/-- Without supply, or with the RESET line held, nothing is taken. -/
theorem act_not_alive {s : State} (h : s.part.alive = false) (f : Part → Part) :
    act (whileAlive f) s = .next s := by
  simp [act, whileAlive, h]

/-- A frame that ends is judged, or held. -/
theorem arrive_cases (l : Line) (f : RxFrame) (m : Part) :
    (m.hasRoom l = true ∧ arrive l f m = judge l f m) ∨
    (m.hasRoom l = false ∧ arrive l f m = m.onLink l (fun k => { k with held := some f })) := by
  unfold arrive
  cases h : m.hasRoom l <;> simp

/-- A sound frame with a request's code is judged by passing the request to its owner (R180). -/
theorem serveHost_sound {p : HostPort} {code : Byte} {r : Request} (h : requestOf p code = some r)
    (tag : Byte) (body : List Byte) (m : Part) :
    serveHost p (.sound code tag body) m = serve r p tag body m := by
  simp [serveHost, RxFrame.sound, RxFrame.checkHolds, h]

/-- What an offered alert entry can do (R96, R97): the queue's tail, the events, STALLED, and nothing else. -/
theorem Part.offerAlert_cases (a : Alert) (m : Part) :
    ∃ alerts stalled events,
      m.offerAlert a = Part.setShared events
        { m with tamper := { m.tamper with alerts := alerts, stalled := stalled } } ∧
      ((m.tamper.alerts.length < Config.alertPlaces ∧ alerts = m.tamper.alerts ++ [a]) ∨
        (¬ m.tamper.alerts.length < Config.alertPlaces ∧ alerts = m.tamper.alerts)) ∧
      (stalled = (m.tamper.stalled || meets a.classes m.tamper.stallClasses)) := by
  unfold Part.offerAlert
  by_cases h1 : m.tamper.alerts.length < Config.alertPlaces <;>
    by_cases h2 : meets a.classes m.tamper.stallClasses = true <;>
    cases h3 : m.tamper.stalled <;>
    simp only [h1, h2, if_true, if_false, Bool.false_eq_true]
  · exact ⟨_, true, evAlertQueued ||| evStallBegan, by simp [Part.setShared, BitVec.or_assoc],
      .inl ⟨trivial, rfl⟩, by simp⟩
  · exact ⟨_, true, evAlertQueued, by simp [Part.setShared], .inl ⟨trivial, rfl⟩, by simp⟩
  · exact ⟨_, false, evAlertQueued, by simp [Part.setShared, h3], .inl ⟨trivial, rfl⟩, by simp⟩
  · exact ⟨_, true, evAlertQueued, by simp [Part.setShared, h3], .inl ⟨trivial, rfl⟩, by simp⟩
  · exact ⟨m.tamper.alerts, true, evAlertOverflow ||| evStallBegan,
      by simp [Part.setShared, BitVec.or_assoc], .inr ⟨not_false, rfl⟩, by simp⟩
  · exact ⟨m.tamper.alerts, true, evAlertOverflow, by simp [Part.setShared], .inr ⟨not_false, rfl⟩, by simp⟩
  · exact ⟨m.tamper.alerts, false, evAlertOverflow, by simp [Part.setShared, ← h3],
      .inr ⟨not_false, rfl⟩, by simp⟩
  · exact ⟨m.tamper.alerts, true, evAlertOverflow, by simp [Part.setShared, ← h3],
      .inr ⟨not_false, rfl⟩, by simp⟩

/-- What a stranger's telegram can do (R133): the stranger table, and STRANGER_EVICTED. -/
theorem Part.hearStranger_cases (q : Queued) (lead : Option Nat) (m : Part) :
    ∃ t events, m.hearStranger q lead = Part.setShared events { m with strangers := t } := by
  unfold Part.hearStranger
  split
  · rename_i e _
    exact ⟨m.strangers.refresh e.1 q, 0, by simp [Part.setShared]⟩
  · split
    · rename_i way _
      exact ⟨m.strangers.insert way q lead, 0, by simp [Part.setShared]⟩
    · exact ⟨_, _, rfl⟩

/-- Every command answers a next state in which the queue of waiting commands stands as it was. -/
theorem act_next (f : Part → Part) (s : State) : act f s = .next { s with part := f s.part } := rfl

end Sys2Proof.Machine
end

