-- ==== Sys2Proof/Laws/Tables.lean ====
section
/-! SUPPORT. Keyed tables: reading back what was written, and the canonical form every table operation keeps. -/

namespace Sys2Proof.Machine

variable {α : Type}

@[simp] theorem Table.find_nil (k : Nat) : Table.find ([] : Table α) k = none := rfl

theorem Table.find_cons (j : Nat) (w : α) (t : Table α) (k : Nat) :
    Table.find ((j, w) :: t) k = if j = k then some w else Table.find t k := by
  unfold Table.find
  by_cases h : j = k <;> simp [h]

/-- An absent key of a canonical table's tail: every key there stands above its head. -/
theorem Table.Canonical.head_lt {j : Nat} {w : α} {t : Table α} (h : Table.Canonical ((j, w) :: t)) :
    ∀ e ∈ t, j < e.1 := by
  intro e he
  have := (List.pairwise_cons.mp h).1 e.1 (List.mem_map_of_mem he)
  simpa using this

theorem Table.Canonical.tail {e : Nat × α} {t : Table α} (h : Table.Canonical (e :: t)) :
    Table.Canonical t := (List.pairwise_cons.mp h).2

/-- A key below every key of a table is not in it. -/
theorem Table.find_eq_none_of_lt {t : Table α} {k : Nat} (h : ∀ e ∈ t, k < e.1) :
    Table.find t k = none := by
  unfold Table.find
  rw [List.find?_eq_none.mpr]
  · rfl
  · intro e he
    have := h e he
    simp only [beq_iff_eq]
    omega

/-- Reading the key just written. -/
@[simp] theorem Table.find_put_self (k : Nat) (v : α) (t : Table α) :
    Table.find (Table.put k v t) k = some v := by
  induction t with
  | nil => simp [Table.put, Table.find]
  | cons e t ih =>
    obtain ⟨j, w⟩ := e
    unfold Table.put
    split
    · simp [Table.find_cons]
    · split
      · simp [Table.find_cons]
      · rename_i h1 h2
        rw [Table.find_cons, if_neg (fun h => h2 h.symm)]
        exact ih

/-- Reading another key. -/
theorem Table.find_put_of_ne {k n : Nat} (h : n ≠ k) (v : α) (t : Table α) :
    Table.find (Table.put k v t) n = Table.find t n := by
  induction t with
  | nil => simp [Table.put, Table.find, Ne.symm h]
  | cons e t ih =>
    obtain ⟨j, w⟩ := e
    unfold Table.put
    split
    · rw [Table.find_cons, if_neg (Ne.symm h)]
    · split
      · rename_i h2
        subst h2
        rw [Table.find_cons, Table.find_cons, if_neg (Ne.symm h), if_neg (Ne.symm h)]
      · rw [Table.find_cons, Table.find_cons, ih]

theorem Table.find_modify (k : Nat) (f : α → α) (t : Table α) (n : Nat) :
    Table.find (Table.modify k f t) n = if n = k then (Table.find t n).map f else Table.find t n := by
  induction t with
  | nil => simp [Table.modify, Table.find]
  | cons e t ih =>
    obtain ⟨j, w⟩ := e
    have hc : Table.modify k f ((j, w) :: t) =
        (j, if j = k then f w else w) :: Table.modify k f t := by
      unfold Table.modify
      by_cases h : j = k <;> simp [h]
    rw [hc, Table.find_cons, Table.find_cons, ih]
    by_cases hj : j = n
    · subst hj
      by_cases hk : j = k <;> simp [hk]
    · simp [hj]

@[simp] theorem Table.find_mapValues (f : α → α) (t : Table α) (n : Nat) :
    Table.find (Table.mapValues f t) n = (Table.find t n).map f := by
  induction t with
  | nil => rfl
  | cons e t ih =>
    obtain ⟨j, w⟩ := e
    have hc : Table.mapValues f ((j, w) :: t) = (j, f w) :: Table.mapValues f t := rfl
    rw [hc, Table.find_cons, Table.find_cons, ih]
    by_cases h : j = n <;> simp [h]

/-- An entry of a canonical table is what its key reads as. -/
theorem Table.Canonical.find_of_mem {t : Table α} (h : Table.Canonical t) {e : Nat × α} (he : e ∈ t) :
    Table.find t e.1 = some e.2 := by
  induction t with
  | nil => cases he
  | cons x t ih =>
    obtain ⟨j, w⟩ := x
    rw [Table.find_cons]
    rcases List.mem_cons.mp he with rfl | he
    · simp
    · have := h.head_lt e he
      rw [if_neg (by omega)]
      exact ih h.tail he

/-- What a key reads as is an entry of the table. -/
theorem Table.mem_of_find {t : Table α} {k : Nat} {v : α} (h : Table.find t k = some v) : (k, v) ∈ t := by
  induction t with
  | nil => cases h
  | cons x t ih =>
    obtain ⟨j, w⟩ := x
    rw [Table.find_cons] at h
    split at h
    · rename_i hj
      cases h
      simp [hj]
    · exact List.mem_cons_of_mem _ (ih h)

@[simp] theorem Table.keys_modify (k : Nat) (f : α → α) (t : Table α) :
    (Table.modify k f t).map Prod.fst = t.map Prod.fst := by
  unfold Table.modify
  rw [List.map_map]
  apply List.map_congr_left
  intro e _
  simp only [Function.comp]
  split <;> rfl

@[simp] theorem Table.keys_mapValues (f : α → α) (t : Table α) :
    (Table.mapValues f t).map Prod.fst = t.map Prod.fst := by
  unfold Table.mapValues
  rw [List.map_map]
  rfl

theorem Table.Canonical.modify {t : Table α} (h : Table.Canonical t) (k : Nat) (f : α → α) :
    Table.Canonical (Table.modify k f t) := by
  unfold Table.Canonical at *
  rw [Table.keys_modify]
  exact h

theorem Table.Canonical.mapValues {t : Table α} (h : Table.Canonical t) (f : α → α) :
    Table.Canonical (Table.mapValues f t) := by
  unfold Table.Canonical at *
  rw [Table.keys_mapValues]
  exact h

/-- The keys of a table after a write: the key written, and those that stood. -/
theorem Table.mem_keys_put {k : Nat} {v : α} {t : Table α} {n : Nat}
    (h : n ∈ (Table.put k v t).map Prod.fst) : n = k ∨ n ∈ t.map Prod.fst := by
  induction t with
  | nil => simpa [Table.put] using h
  | cons e t ih =>
    obtain ⟨j, w⟩ := e
    unfold Table.put at h
    split at h
    · simpa using h
    · split at h
      · rename_i h2
        subst h2
        simp only [List.map_cons, List.mem_cons] at h ⊢
        tauto
      · simp only [List.map_cons, List.mem_cons] at h ⊢
        rcases h with h | h
        · exact .inr (.inl h)
        · rcases ih h with h | h
          · exact .inl h
          · exact .inr (.inr h)

theorem Table.Canonical.put {t : Table α} (h : Table.Canonical t) (k : Nat) (v : α) :
    Table.Canonical (Table.put k v t) := by
  induction t with
  | nil => simp [Table.put, Table.Canonical]
  | cons e t ih =>
    obtain ⟨j, w⟩ := e
    have hp := List.pairwise_cons.mp h
    unfold Table.put
    split
    · rename_i hk
      refine List.pairwise_cons.mpr ⟨?_, h⟩
      intro n hn
      rcases List.mem_cons.mp hn with rfl | hn
      · exact hk
      · exact lt_trans hk (hp.1 n hn)
    · split
      · rename_i h1 h2
        subst h2
        exact h
      · rename_i h1 h2
        refine List.pairwise_cons.mpr ⟨?_, ih hp.2⟩
        intro n hn
        rcases Table.mem_keys_put hn with rfl | hn
        · show j < n
          omega
        · exact hp.1 n hn

/-- A write to a key that was absent lengthens the table by one. -/
theorem Table.length_put_of_absent {k : Nat} {t : Table α} (h : Table.find t k = none) (v : α) :
    (Table.put k v t).length = t.length + 1 := by
  induction t with
  | nil => rfl
  | cons e t ih =>
    obtain ⟨j, w⟩ := e
    rw [Table.find_cons] at h
    unfold Table.put
    split
    · rfl
    · split
      · rename_i h2
        simp [h2] at h
      · simp only [List.length_cons]
        split at h
        · cases h
        · rw [ih h]

/-- The tables of the part after a cold start stand in their canonical form. -/
theorem Table.canonical_nil : Table.Canonical ([] : Table α) := List.Pairwise.nil

end Sys2Proof.Machine
end

