-- ==== Sys2Proof/Tests/Slice0.lean ====
section
/-! SUPPORT. Tests of the model against the worked examples of spec/, smoke tests of WellFormed, and a witness for the hypotheses of
each statement in Certificates/Slice0/Obligations.lean. -/

namespace Sys2Proof.Tests

open Sys2Proof Sys2Proof.Machine

/-! ## WellFormed refuses each ill-formed command -/

theorem test_body_longer_than_a_frame_refused :
    (Instr.loadStop 0 (List.replicate 63 0)).wellFormed = false := by decide
theorem test_telegram_longer_than_a_frame_refused :
    (Instr.telegram 0 (List.replicate 63 0) 0).wellFormed = false := by decide
theorem test_telegram_code_is_not_unknown_to_the_radio_port :
    (Instr.radioUnknownCode 0x01 0 [] 0).wellFormed = false := by decide
theorem test_known_code_is_not_unknown_to_its_port :
    (Instr.unknownCode .cab 0x24 7 [0, 12]).wellFormed = false := by decide
theorem test_sound_frame_is_no_bad_frame :
    (Instr.badFrame .cab (.byLength 0x24 7 [0, 12] 0x003B)).wellFormed = false := by decide
theorem test_frame_that_assembly_cannot_leave_refused :
    (Instr.badFrame .cab (.malformed [0, 2, 0x24, 7, 0, 38])).wellFormed = false := by decide
theorem test_empty_malformed_frame_refused :
    (Instr.badFrame .cab (.malformed [])).wellFormed = false := by decide
theorem test_batch_number_zero_refused : (Instr.confirmTimerExpiry 0).wellFormed = false := by decide
theorem test_batch_number_above_range_refused : (Instr.confirmTimerExpiry 65536).wellFormed = false := by decide
theorem test_well_formed_commands_accepted :
    (Instr.loadStop 0 (List.replicate 62 0)).wellFormed = true ∧
    (Instr.unknownCode .depot 0x24 7 [0, 12]).wellFormed = true ∧
    (Instr.badFrame .cab (.byLength 0x24 7 [0, 12] 0x003A)).wellFormed = true ∧
    (Instr.badFrame .cab (.malformed [0, 4, 0x24, 7, 0])).wellFormed = true ∧
    (Instr.badFrame .cab (.malformed [0, 1])).wellFormed = true ∧
    (Instr.confirmTimerExpiry 65535).wellFormed = true := by decide

/-! ## Frames (the worked examples of 10 and 11) -/

/-- READ STOP of stop 12 with tag 7: check 003Bh, eight bytes. -/
theorem test_read_stop_frame :
    frameBytes 0x24 7 [0, 12] (frameCheck 0x24 7 [0, 12]) =
      [0x00, 0x04, 0x24, 0x07, 0x00, 0x0C, 0x00, 0x3B] := by decide

/-- LOAD MEMBER of member A with tag 5. -/
def loadMemberA : List Byte :=
  [0x00, 0x0F, 0x42, 0x40, 0x01, 0x00, 0x0C, 0x01, 0x03, 0x01, 0x00, 0x02, 0xCF, 0x9C, 0x65, 0x53, 0xF1, 0x00]

theorem test_load_member_check : frameCheck 0x12 5 loadMemberA = 0x03E4 := by decide
theorem test_load_member_fields :
    loadMemberOf loadMemberA =
      some ⟨⟨1000000, .water⟩, 12, .full, 3, some ⟨184220, 1700000000⟩⟩ := by decide
theorem test_load_member_presence_must_fit_the_length :
    loadMemberOf (loadMemberA.set 9 0) = none ∧ loadMemberOf (loadMemberA.set 7 2) = none ∧
    (loadMemberOf ((loadMemberA.set 9 0).take 10)).isSome = true := by decide

/-- A short frame of five bytes answers with its tag, one of three bytes with tag 0, an out-of-range length with tag 0. -/
theorem test_tag_of_a_malformed_frame :
    RxFrame.tag (.malformed [0, 4, 0x24, 7, 0]) = 7 ∧ RxFrame.tag (.malformed [0, 4, 0x24]) = 0 ∧
    RxFrame.tag (.malformed [0, 1]) = 0 := by decide

/-- Code 24h is READ STOP on the cab port and unknown on the depot port. -/
theorem test_request_codes : requestOf .cab 0x24 = some .readStop ∧ requestOf .depot 0x24 = none ∧
    requestOf .depot 0x1B = some .clearTamper ∧ requestOf .cab 0x35 = some .readState := by decide

/-! ## The evaluator (worked cases of 4.6) -/

def profile3 : Profile := ⟨900, 120, 3600, 2592000, 5, 1000, 1209600⟩
def profile5 : Profile := ⟨900, 120, 3600, 2592000, 10, 40000, 1209600⟩
def start : Word32 := 1700000000

/-- A telegram of 1,000,000 WATER. -/
def telegramA (counter time : Word32) (magnet : Bool) : Telegram :=
  ⟨⟨1000000, .water⟩, counter, time, magnet, false, false, false, 140⟩

def first (w : Width) (p : Profile) (c0 : Word32) (counter time : Word32) : Judgement :=
  judgeFirst w p (some ⟨c0, start⟩) (atWidth w counter) (telegramA counter time false)

theorem test_case_a : first .full profile3 184220 190940 (start + 1296000) = ⟨0, some 18, some 511⟩ := by decide
theorem test_case_b : first .full profile3 50000 52000 (start + 7200) = ⟨indHighRate, some 1000, some 899⟩ := by decide
theorem test_case_c : first .half profile3 65100 131492 (start + 86400) = ⟨indWrap, some 35, some 876⟩ := by decide
theorem test_case_d1 : first .full profile3 5000 4997 (start + 1296000) = ⟨indStill, some 0, some 511⟩ := by decide
theorem test_case_d2 : first .full profile3 5000 4990 (start + 1296000) = ⟨indBackstep, some 0, some 511⟩ := by decide
theorem test_case_e : first .full profile3 100000000 4100000000 (start + 1) =
    ⟨indOverrange ||| indHighRate, some 4294967295, some 900⟩ := by decide
theorem test_case_f : first .full profile3 184220 184500 (start - 1000) = ⟨indClock ||| indNoTime, none, none⟩ := by decide
theorem test_case_g : first .half profile5 32770 32765 (start + 7200) =
    ⟨indWrap ||| indHighRate, some 32765, some 899⟩ := by decide
theorem test_case_h : judgeFirst .full profile3 none 12000 (telegramA 12000 start true) =
    ⟨indNoHistory ||| indMagnet, none, none⟩ := by decide
theorem test_rising_ceiling : ceiling ⟨100, 400, 3600, 7200, 0, 0, 0⟩ 5000 = 216 := by decide

/-- The four later hearings of member M. -/
theorem test_later_hearings :
    judgeLater .full profile3 150 1800003600 ⟨4294966900, 1800000000⟩ = (indWrap, true) ∧
    judgeLater .full profile3 151 1800003600 ⟨150, 1800003600⟩ = (indClone, false) ∧
    judgeLater .full profile3 900 1800001000 ⟨150, 1800003600⟩ = (indClock, false) ∧
    judgeLater .full profile3 120 1800007200 ⟨150, 1800003600⟩ = (indBackstep, false) := by decide

/-! ## The stranger tree (worked example of 7) -/

theorem test_set_17 :
    (((((⟨false, false, false⟩ : Tree).touch 0).touch 1).touch 2).touch 0).touch 3 = ⟨false, true, false⟩ ∧
    (⟨false, true, false⟩ : Tree).victim = 1 ∧ ((⟨false, true, false⟩ : Tree).touch 1).victim = 2 ∧
    (((((⟨false, false, false⟩ : Tree).touch 0).touch 2).touch 3).touch 1).victim = 2 := by decide

/-! ## Classes (5.1 and the worked example of 5) -/

theorem test_clean_count_clamp : cleanCountOf 0 = 1 ∧ cleanCountOf 15 = 15 ∧ cleanCountOf 255 = 15 := by decide

def classes5 : Table ClassRecord :=
  [(0, ⟨indMagnet ||| indOpened, .latch, .prompt, true, 1⟩), (1, ⟨indStill ||| indNoHistory, .report, .prompt, false, 1⟩),
    (2, ⟨indHighRate ||| indBackstep ||| indClock, .retry, .deferred, false, 2⟩), (3, ⟨0, .off, .prompt, false, 1⟩)]

def unit5 : Tamper := ⟨classes5, [], false, false⟩

/-- Member B's first hearing: classes 0 and 2 fire, class 0 is latched, class 2 watched and deferred. -/
theorem test_first_hearing_of_b :
    unit5.fired (indHighRate ||| indMagnet) = 5 ∧ promptClasses unit5 5 false = 1 ∧
    deferredClasses unit5 5 false = 4 ∧ watchMapAfter unit5 5 [] = [(2, 0)] ∧ tamperStateOf 1 [(2, 0)] = .flagged ∧
    unit5.masks 1 &&& (indHighRate ||| indMagnet) = indMagnet := by decide

/-- Clean hearings raise class 2's count to 1 and then remove the entry; with the stop CLOSED its firing is reported at once. -/
theorem test_clean_hearings_of_b :
    watchMapAfter unit5 0 [(2, 0)] = [(2, 1)] ∧ watchMapAfter unit5 0 [(2, 1)] = [] ∧
    watchMapAfter unit5 4 [(2, 1)] = [(2, 0)] ∧ promptClasses unit5 4 true = 4 := by decide

/-! ## States for one step -/

/-- A docked part in a route state. -/
def partAt (q : RouteState) : Part :=
  { Part.cold false false true false 0 with route := ⟨q, 4000, true, 0, 0, 0⟩ }

def stateAt (q : RouteState) : State := ⟨partAt q, []⟩

def keyA : Key := ⟨1000000, .water⟩
def keyB : Key := ⟨1004096, .water⟩
def keyC : Key := ⟨1000000, .heat⟩

def memberA : Member := .loaded keyA 12 .full 3 (some ⟨184220, 1700000000⟩)
def memberB : Member := .loaded keyB 12 .full 3 none
def memberC : Member := .loaded keyC 12 .full 3 none

def stop12 : Stop := ⟨12, 0, .carry, 30, 3, 0, .opened, some 0, some 3850⟩
def stop40 : Stop := ⟨40, 1, .linger, 60, 0, 0, .pending, none, none⟩

def recordA : Record :=
  ⟨0, keyA, 190940, 1701296000, 4000, some 12, 1, 140, false, 0, 0, some 18, some 511, .fresh, none⟩

/-- A RUNNING route: stop 12 OPEN in slot 0, its members A, B and C UNREAD. -/
def running : Part :=
  { partAt .running with
    dir := ⟨[(2304, memberA), (2305, memberB), (2306, memberC)], ⟨3, 3, 0, 0, 0⟩⟩
    profiles := [(3, profile3)]
    tamper := unit5
    stops := ⟨[(12, stop12), (40, stop40)],
      #v[⟨some 12, none⟩, ⟨none, none⟩, ⟨none, none⟩, ⟨none, none⟩], [12], []⟩ }

/-- The same route after stop 12 was closed as CARRY with A READ: C then B on the sweep list, stop 40 in LINGER. -/
def swept : Part :=
  { running with
    dir :=
      { ways := [(2304, { memberA with readState := .read, record := some 0 }),
          (2305, { memberB with readState := .carried }), (2306, { memberC with readState := .carried })]
        counts := ⟨3, 0, 1, 2, 0⟩ }
    store := [recordA]
    stops := ⟨[(12, { stop12 with state := .closed, slot := none, readCount := 1 }),
      (40, { stop40 with state := .lingering, slot := some 1, openTime := some 3900 })],
      #v[⟨none, none⟩, ⟨some 40, some ⟨1, true⟩⟩, ⟨none, none⟩, ⟨none, none⟩], [], [⟨keyC, 12⟩, ⟨keyB, 12⟩]⟩ }

/-- The part a command makes of a part. -/
def after (c : Instr) (m : Part) : Option Part :=
  match exec c ⟨m, []⟩ with
  | .next s => some s.part
  | _ => none

/-- What the last response of a port says. -/
def lastAnswer (p : HostPort) (m : Part) : Option (ReplyCode × Byte × List Byte) :=
  (m.port p).link.out.getLast?.map (fun r => (r.code, r.tag, bodyBytes r.body))

/-- LOAD MEMBER of A: position 2,304, way 0 of set 576. -/
theorem test_load_member :
    (after (.loadMember 5 loadMemberA) (partAt .loading)).bind (lastAnswer .depot) =
      some (.ok, 5, [0x09, 0x00]) := by decide

/-- BEGIN LOAD sent twice is refused. -/
theorem test_begin_load : (after (.beginLoad 1 []) (partAt .empty)).map (fun m => m.route.state) = some .loading ∧
    (after (.beginLoad 1 []) (partAt .loading)).bind (lastAnswer .depot) = some (.wrongState, 1, []) := by decide

/-- FINISH LOAD names the missing stop 40 of 1,002,048 GAS at position 2,307. -/
theorem test_finish_load_incomplete :
    (after (.finishLoad 1 []) { partAt .loading with
        route := ⟨.loading, 0, false, 1, 8, 5⟩
        dir := ⟨[(2304, memberA), (2307, .loaded ⟨1002048, .gas⟩ 40 .full 7 none)], ⟨2, 2, 0, 0, 0⟩⟩
        stops := ⟨[(12, { stop12 with state := .pending })], Vector.replicate 4 ⟨none, none⟩, [], []⟩ }).bind
      (lastAnswer .depot) =
      some (.incomplete, 1, [2, 0x09, 0x03, 0x00, 0x0F, 0x4A, 0x40, 2, 0, 40]) := by decide

/-- CLOSE STOP 12, default CARRY: in key order A, C, B. -/
theorem test_close_stop_carries_in_key_order :
    (after (.closeStop 9 [0, 12, 0, 0]) running).map (fun m => m.stops.sweep.map SweepEntry.key) =
      some [keyA, keyC, keyB] ∧
    (after (.closeStop 9 [0, 12, 0, 0]) running).bind (lastAnswer .cab) =
      some (.ok, 9, [3, 0, 3, 0, 0, 0, 3]) := by decide

/-- CLOSE STOP 12 with the override LINGER keeps slot 0 and starts its timer at 30. -/
theorem test_close_stop_lingers :
    (after (.closeStop 9 [0, 12, 1, 2]) running).map (fun m => (m.stops.slots[0], m.stops.lead)) =
      some (⟨some 12, some ⟨30, false⟩⟩, none) := by decide

/-- The expiry of slot 1 closes stop 40 and sets LINGER_ENDED. -/
theorem test_linger_expiry :
    (after (.lingerExpiry 1) swept).map (fun m => (m.stops.slots[1], m.ports.cab.locals)) =
      some (⟨none, none⟩, evLingerEnded) := by decide

/-- SKIP SWEEP takes C, which becomes MISSED. -/
theorem test_skip_sweep :
    (after (.skipSweep 2 []) swept).map (fun m => (m.stops.sweep, m.dir.counts)) =
      some ([⟨keyB, 12⟩], ⟨3, 0, 1, 1, 1⟩) := by decide

/-- The body of telegram t1 of the example of 3. -/
def telegramT1 : List Byte :=
  [0x00, 0x0F, 0x42, 0x40, 0x01, 0x00, 0x02, 0xE9, 0xDC, 0x65, 0x67, 0xB7, 0x80, 0x00, 140]

/-- t1 arrives: TAKEN, and taken by the free engine with arrival time 4,000. -/
theorem test_telegram_taken :
    (after (.telegram 3 telegramT1 (frameCheck 1 3 telegramT1)) running).map
        (fun m => (m.intake.queue, m.intake.eval.map (fun e => (e.queued.telegram, e.queued.arrival)),
          m.ports.radio.out.map Response.code)) =
      some ([], some (telegramA 190940 1701296000 false, 4000), [.taken]) := by decide

/-- Outside RUNNING a sound telegram is answered IDLE, and a failed check BADCHECK. -/
theorem test_telegram_refused :
    (after (.telegram 3 telegramT1 (frameCheck 1 3 telegramT1)) (partAt .returned)).map
        (fun m => m.ports.radio.out.map Response.code) = some [.idle] ∧
    (after (.telegram 3 telegramT1 0) running).map (fun m => m.ports.radio.out.map Response.code) =
      some [.badCheck] := by decide

def evaluating (t : Telegram) (m : Part) : Part := { m with intake := ⟨[], some ⟨⟨t, 4000⟩, false⟩⟩ }

/-- The completion of t1: record 0 as the example gives it, stop 12's read count 1. -/
theorem test_first_hearing :
    (after .telegramCompletion (evaluating (telegramA 190940 1701296000 false) running)).map
        (fun m => (m.store, (m.stop 12).map Stop.readCount, m.dir.counts)) =
      some ([recordA], some 1, ⟨3, 2, 1, 0, 0⟩) := by decide

/-- The completion of t2: CLONE, the record's counter kept, two hearings. -/
theorem test_later_hearing :
    (after .telegramCompletion (evaluating (telegramA 190941 1701296000 false) swept)).map
        (fun m => m.store.map (fun r => (r.hearings, r.counter, r.indicators))) =
      some [(2, 190940, indClone)] := by decide

/-- A frame whose last byte is damaged: BADFRAME with tag 7 and the cab's LINK_FAULT. -/
theorem test_bad_frame :
    (after (.badFrame .cab (.byLength 0x24 7 [0, 12] 0x003A)) running).map
        (fun m => (lastAnswer .cab m, m.ports.cab.locals, m.ports.depot.locals)) =
      some (some (.badFrame, 7, []), evLinkFault, 0) := by decide

/-- The eighth byte of the READ STOP frame ends it by its length. -/
theorem test_last_byte_ends_the_frame :
    (after (.overrun .cab 0x3B)
        (running.onLink .cab (fun k => { k with rx := .collecting [0, 4, 0x24, 7, 0, 12, 0] }))).bind (lastAnswer .cab) =
      some (.ok, 7, [0, 12, 0, 0, 1, 30, 0, 3, 0, 0, 1, 0, 1, 0, 0, 0x0F, 0x0A, 0, 1]) := by decide

/-- A DOCKED event named by the cab is refused; a shared event is cleared from both views. -/
theorem test_clear_events :
    (after (.clearEvents .cab 1 [4, 0]) running).bind (lastAnswer .cab) = some (.badValue, 1, []) ∧
    (after (.clearEvents .cab 1 [0, 8]) (running.setShared evSweepOverflow)).map (fun m => m.view .depot) =
      some 0 := by decide

/-- END ROUTE held by STALLED; taken with PASS on. -/
theorem test_end_route :
    (after (.endRoute 1 []) { running with tamper := { unit5 with stalled := true } }).bind (lastAnswer .cab) =
      some (.stalled, 1, []) ∧
    (after (.endRoute 1 []) { swept with tamper := { unit5 with stalled := true, pass := true } }).map
      (fun m => (m.route.state, m.dir.counts, m.stops.sweep)) = some (.returned, ⟨3, 0, 1, 0, 2⟩, []) := by decide

/-- BEGIN UPLOAD lists the reading item and then the misses in key order; NEXT BATCH carries them. -/
def returned : Part :=
  { swept with
    route := ⟨.returned, 9842, true, 2, 8, 15⟩
    dir :=
      { ways := [(2304, { memberA with readState := .read, record := some 0 }),
          (2305, { memberB with readState := .missed }), (2306, { memberC with readState := .missed })]
        counts := ⟨3, 0, 1, 0, 2⟩ }
    stops := { swept.stops with sweep := [] } }

def uploading : Part :=
  { returned with
    route := ⟨.uploading, 9842, true, 2, 8, 15⟩
    upload := ⟨some [.reading 0, .miss keyC .fresh, .miss keyB .fresh], [], 65535⟩ }

theorem test_begin_upload :
    (after (.beginUpload 1 []) returned).map (fun m => m.upload.order) =
      some (some [.reading 0, .miss keyC .fresh, .miss keyB .fresh]) := by decide

/-- The batch after number 65,535 is number 1; its 3 items take 42 + 12 + 12 bytes. -/
theorem test_next_batch :
    (after (.nextBatch 1 []) uploading).map (fun m => m.upload.batches) = some [⟨1, [0, 1, 2], ⟨20, false⟩⟩] ∧
    ((after (.nextBatch 1 []) uploading).bind (lastAnswer .depot)).map (fun r => r.2.2.length) = some 70 := by decide

def batched : Part :=
  { uploading with
    store := [{ recordA with upload := .batched, batch := some 1 }]
    upload := ⟨some [.reading 0, .miss keyC .batched, .miss keyB .batched], [⟨1, [0, 1, 2], ⟨1, true⟩⟩], 1⟩ }

/-- Confirming the last items makes the route DONE. -/
theorem test_confirm_batch :
    (after (.confirmBatch 1 [0, 1]) batched).map (fun m => (m.route.state, m.upload.batches)) = some (.done, []) ∧
    (after (.confirmBatch 1 [0, 1]) batched).bind (lastAnswer .depot) =
      some (.ok, 1, [0, 1, 3, 0, 3, 1, 6]) := by decide

/-- The dock line falls: the items are FRESH again and BATCH_RETURNED is set. -/
theorem test_dock_line_falling :
    (after .dockLineFalling batched).map
        (fun m => (m.countItems .fresh, m.upload.batches, m.ports.shared, m.ports.dock)) =
      some (3, [], evBatchReturned, .undocked) := by decide

/-- A query for stop 12's UNREAD and CARRIED members reaches B at position 2,305. -/
def scanning : Part :=
  swept.onPort .cab (fun k => { k with scan := some ⟨40, ⟨5, 7, 15, 3, some 12⟩, 2305, []⟩ })

theorem test_scan_reach :
    (after (.scanReach .cab) scanning).map (fun m => m.ports.cab.scan) =
      some (some ⟨40, ⟨5, 7, 15, 3, some 12⟩, 2306, [⟨2305, keyB, 12, .carried, .clean⟩]⟩) := by decide

/-- A warm restart closes stop 40's linger and keeps the sweep list, with the views empty. -/
theorem test_reset :
    (after .reset swept).map (fun m => ((m.stop 40).map Stop.state, m.stops.sweep.length, m.view .cab)) =
      some (some .closed, 2, 0) := by decide

/-- A power-up that finds the memory lost makes a cold start. -/
theorem test_power_up_cold :
    (after (.powerUp false) swept).map (fun m => (m.route.state, m.dir.ways, m.power.marker)) =
      some (.empty, [], .valid) := by decide

/-- OPEN STOP 40 takes slot 1; its answer gives the open time 4,000 behind a presence byte (R200). -/
theorem test_open_stop :
    (after (.openStop 4 [0, 40]) running).bind (lastAnswer .cab) = some (.ok, 4, [1, 1, 0, 0, 0x0F, 0xA0]) := by decide

/-- The end of a timer's last second marks it due; READ STOP gives 1 second until the expiry is taken. -/
theorem test_last_second :
    (after .endOfSecond { swept with stops := { swept.stops with slots := swept.stops.slots.set 1 ⟨some 40, some ⟨1, false⟩⟩ } }).map
      (fun m => (m.stops.slots[1].timer, (m.stop 40).bind m.stops.remaining)) = some (some ⟨1, true⟩, some 1) := by decide

/-- The clock holds at its greatest value; a running linger timer falls. -/
theorem test_end_of_second :
    (after .endOfSecond { running with
        route := { running.route with clock := BitVec.allOnes 32 }
        stops := { running.stops with slots := running.stops.slots.set 2 ⟨some 40, some ⟨60, false⟩⟩ } }).map
      (fun m => (m.route.clock, m.stops.slots[2].timer)) = some (BitVec.allOnes 32, some ⟨59, false⟩) := by decide

/-! ## Witnesses: states and operands that meet the hypotheses of the statements -/

/-- No command waits. -/
abbrev calm (m : Part) : State := ⟨m, []⟩

/-- The part with a port's queue of responses full: 8 answers to requests, or 4 answers of the radio port (R182). -/
def crowded (l : Line) (n : Nat) (m : Part) : Part :=
  m.onLink l (fun k => { k with out := List.replicate n ⟨.ok, 1, .none, false⟩ })

def queuedA : Queued := ⟨telegramA 190940 1701296000 false, 4000⟩

/-- Every queue at its last place: 16 telegrams, 32 alerts, 8 responses on the cab port, 4 on the radio port. -/
def brimming : Part :=
  crowded .cab 8 (crowded .radio 4 { running with
    intake := ⟨List.replicate 16 queuedA, some ⟨queuedA, false⟩⟩
    tamper := { unit5 with alerts := List.replicate 32 ⟨keyA, 12, 1, indMagnet, .prompt, 3000⟩, stalled := true } })

/-- Member B watched by class 2 and latched by class 0 (the worked example of 5). -/
def flagged : Part :=
  { running with dir := { running.dir with ways := [(2304, memberA),
    (2305, { memberB with tamper := .flagged, latched := 1, watch := [(2, 0)], deferred := 4 }), (2306, memberC)] } }

theorem witness_EventsAndTablesStayInForm :
    (swept.setShared evSweepOverflow).EventsLegal ∧ swept.TablesCanonical ∧ flagged.TablesCanonical ∧ swept.EventsLegal ∧
    (∃ t, step ⟨swept, [.setMask .cab 1 [2, 0x77]]⟩ = .next t) ∧
    ∃ t, step ⟨swept.setShared evSweepOverflow, [.skipSweep 2 []]⟩ = .next t :=
  ⟨⟨by decide, fun p => by cases p <;> decide⟩, by unfold Part.TablesCanonical; decide, by unfold Part.TablesCanonical; decide,
    ⟨by decide, fun p => by cases p <;> decide⟩, ⟨_, rfl⟩, ⟨_, rfl⟩⟩

/-- RETURNED with END ROUTE's void telegram still in evaluation. -/
theorem witness_IntakeStaysFrozen :
    Part.IntakeFrozen { returned with intake := ⟨[], some ⟨queuedA, true⟩⟩ } ∧ brimming.IntakeFrozen ∧
    (∃ t, step ⟨{ returned with intake := ⟨[], some ⟨queuedA, true⟩⟩ }, [.telegramCompletion]⟩ = .next t) ∧
    ∃ t, step ⟨{ brimming with tamper := unit5 }, [.endRoute 1 []]⟩ = .next t :=
  ⟨fun _ => by decide, fun h => absurd rfl h, ⟨_, rfl⟩, ⟨_, rfl⟩⟩

/-- Stop 12 CLOSED, stop 40 in LINGER in slot 1. -/
theorem swept_slots : swept.SlotsTrue := by
  refine ⟨by decide, by decide, ?_, by decide, ?_, by decide, by decide, ?_⟩
  · intro i n h
    match i, h with
    | 0, h => cases h
    | 1, h => cases h; exact ⟨_, rfl, rfl⟩
    | 2, h => cases h
    | 3, h => cases h
  · intro i t h
    match i, h with
    | 0, h => cases h
    | 1, h => cases h; decide
    | 2, h => cases h
    | 3, h => cases h
  · intro n
    refine ⟨fun h => (by cases h), fun ⟨r, h, hr⟩ => ?_⟩
    have closed : ∀ e ∈ swept.stops.records, e.2.state ≠ .opened := by decide
    exact absurd hr (closed _ (Table.mem_of_find h))

theorem witness_QueuesStayWithinPlaces :
    brimming.WithinPlaces ∧ scanning.WithinPlaces ∧
    (∃ t, step ⟨brimming, [.telegram 3 telegramT1 0]⟩ = .next t) ∧
    (∃ t, step ⟨scanning, [.scanReach .cab]⟩ = .next t) ∧
    swept.SlotsTrue ∧ ∃ t, step ⟨swept, [.openStop 4 [0, 40]]⟩ = .next t :=
  ⟨⟨by decide, by decide, by decide, by decide, by decide,
      fun p => by cases p <;> exact ⟨by decide, by decide, fun c h => by cases h⟩⟩,
    ⟨by decide, by decide, by decide, by decide, by decide, fun p => by
      cases p
      · exact ⟨by decide, by decide, fun c h => by cases h; decide⟩
      · exact ⟨by decide, by decide, fun c h => by cases h⟩⟩, ⟨_, rfl⟩, ⟨_, rfl⟩, swept_slots, ⟨_, rfl⟩⟩

/-- The running route with its loading record: two stops, profile 3, every class. -/
def counted : Part := { running with route := ⟨.running, 4000, true, 2, 8, 15⟩ }

theorem witness_CountsStayTrue :
    running.CountsTrue ∧ swept.CountsTrue ∧
    (∃ t, step ⟨running, [.closeStop 9 [0, 12, 0, 0]]⟩ = .next t) ∧
    (∃ t, step ⟨swept, [.skipSweep 2 []]⟩ = .next t) ∧
    counted.TablesCanonical ∧ counted.LoadingTrue ∧ (partAt .loading).TablesCanonical ∧ (partAt .loading).LoadingTrue ∧
    (∃ t, step ⟨counted, [.openStop 4 [0, 40]]⟩ = .next t) ∧
    ∃ t, step ⟨partAt .loading, [.loadStop 1 [0, 12, 1, 30]]⟩ = .next t :=
  ⟨by unfold Part.CountsTrue; decide, by unfold Part.CountsTrue; decide, ⟨_, rfl⟩, ⟨_, rfl⟩,
    by unfold Part.TablesCanonical; decide, by unfold Part.LoadingTrue; decide, by unfold Part.TablesCanonical; decide,
    by unfold Part.LoadingTrue; decide, ⟨_, rfl⟩, ⟨_, rfl⟩⟩

theorem witness_TamperStatesStayTrue :
    flagged.TamperStatesTrue ∧
    (∃ t, step ⟨flagged, [.clearTamper 1 [0, 0x0F, 0x52, 0x40, 1, 1]]⟩ = .next t) ∧
    ∃ t, step ⟨evaluating (telegramA 190940 1701296000 false) flagged, [.telegramCompletion]⟩ = .next t :=
  ⟨by unfold Part.TamperStatesTrue; decide, ⟨_, rfl⟩, ⟨_, rfl⟩⟩

theorem swept_keys : swept.KeysTrue := by unfold Part.KeysTrue; decide
theorem swept_sweep : swept.SweepTrue := by unfold Part.SweepTrue; decide
theorem swept_store : swept.StoreTrue := by
  refine ⟨?_, by decide, ?_, by decide⟩
  · intro i r h
    match i, h with
    | 0, h => cases h; rfl
    | n + 1, h => cases h
  · intro e he i h
    simp only [swept, List.mem_cons, List.not_mem_nil, or_false] at he
    rcases he with rfl | rfl | rfl
    · cases h; exact ⟨recordA, rfl, rfl⟩
    · cases h
    · cases h

def strangerAt (n : Nat) : Stranger := ⟨⟨BitVec.ofNat 32 (17 + 64 * n), .gas⟩, 255, 100, none, 1, 9, .fresh⟩
def strangerTelegram (n : Nat) : Telegram :=
  ⟨⟨BitVec.ofNat 32 (17 + 64 * n), .gas⟩, 77, 1700000100, false, false, false, false, 60⟩

/-- Set 17 (positions 68 to 71) with its first `n` ways valid. -/
def visited (n : Nat) (t : Telegram) : Part :=
  evaluating t { running with strangers :=
    ⟨(List.range n).map (fun w => (68 + w, strangerAt w)), Vector.replicate 64 ⟨false, false, false⟩, n⟩ }

theorem witness_KeysStayTrue :
    Part.KeysTrue { partAt .loading with dir := ⟨[(2304, memberA), (2305, memberB)], ⟨2, 2, 0, 0, 0⟩⟩ } ∧
    ∃ t, step ⟨{ partAt .loading with dir := ⟨[(2304, memberA), (2305, memberB)], ⟨2, 2, 0, 0, 0⟩⟩ },
      [.loadMember 5 loadMemberA]⟩ = .next t ∧
    (visited 4 (strangerTelegram 5)).KeysTrue ∧ (visited 4 (strangerTelegram 5)).StrangersTrue ∧
    ∃ u, step ⟨visited 4 (strangerTelegram 5), [.telegramCompletion]⟩ = .next u :=
  ⟨by unfold Part.KeysTrue; decide, ⟨_, rfl, by unfold Part.KeysTrue; decide, by unfold Part.StrangersTrue; decide, ⟨_, rfl⟩⟩⟩

theorem witness_SweepListAndStoreStayTrue :
    swept.KeysTrue ∧ swept.SweepTrue ∧ swept.StoreTrue ∧ ∃ t, step ⟨swept, [.skipSweep 2 []]⟩ = .next t :=
  ⟨swept_keys, swept_sweep, swept_store, ⟨_, rfl⟩⟩

/-- The READ member A stays READ while C leaves the sweep list. -/
theorem witness_ReadMemberStaysRead :
    OneEvent (.skipSweep 2 []) swept ∧ swept.KeysTrue ∧ swept.SweepTrue ∧ swept.StoreTrue ∧
    (∃ t, exec (.skipSweep 2 []) (calm swept) = .next t) ∧
    ∃ r, Table.find swept.dir.ways 2304 = some r ∧ r.readState = .read :=
  ⟨fun l f h _ => by cases h; decide, swept_keys, swept_sweep, swept_store, ⟨_, rfl⟩, ⟨_, rfl, rfl⟩⟩

theorem witness_SlotsStayTrue :
    swept.SlotsTrue ∧ (∃ t, step ⟨swept, [.lingerExpiry 1]⟩ = .next t) ∧
    ∃ t, step ⟨swept, [.reset]⟩ = .next t := ⟨swept_slots, ⟨_, rfl⟩, ⟨_, rfl⟩⟩

/-- One reading item and two miss items, all in batch 1. -/
theorem batched_order : batched.OrderTrue := by
  have items : ∀ n x, batched.upload.items[n]? = some x →
      (n = 0 ∧ x = .reading 0) ∨ (n = 1 ∧ x = .miss keyC .batched) ∨ (n = 2 ∧ x = .miss keyB .batched) := by
    intro n x h
    match n, h with
    | 0, h => cases h; simp
    | 1, h => cases h; simp
    | 2, h => cases h; simp
    | k + 3, h => cases h
  refine ⟨by decide, by decide, by decide, ?_, ?_, ?_, by decide, by decide, ?_, ?_, by decide, by decide⟩
  · intro i j x hx hi hj
    rcases items i x hi with ⟨rfl, rfl⟩ | ⟨rfl, rfl⟩ | ⟨rfl, rfl⟩ <;>
      rcases items j _ hj with ⟨rfl, h⟩ | ⟨rfl, h⟩ | ⟨rfl, h⟩ <;>
      first
        | rfl
        | exact absurd h (by decide)
  · intro i h
    obtain ⟨n, hn⟩ := List.getElem?_of_mem h
    rcases items n _ hn with ⟨_, h⟩ | ⟨_, h⟩ | ⟨_, h⟩ <;> cases h
    decide
  · intro p h
    obtain ⟨n, hn⟩ := List.getElem?_of_mem h
    rcases items n _ hn with ⟨_, h⟩ | ⟨_, h⟩ | ⟨_, h⟩ <;> cases h
  · intro n x h
    rcases items n x h with ⟨rfl, rfl⟩ | ⟨rfl, rfl⟩ | ⟨rfl, rfl⟩ <;> decide
  · intro n i r h hr
    rcases items n _ h with ⟨rfl, h⟩ | ⟨rfl, h⟩ | ⟨rfl, h⟩ <;> cases h
    cases hr
    decide

theorem witness_BatchesStayTrue :
    uploading.BatchesTrue ∧ batched.BatchesTrue ∧
    batched.TablesCanonical ∧ batched.OrderTrue ∧
    (∃ t, step ⟨uploading, [.nextBatch 1 []]⟩ = .next t) ∧
    ∃ t, step ⟨batched, [.confirmTimerExpiry 1]⟩ = .next t :=
  ⟨by unfold Part.BatchesTrue; decide, by unfold Part.BatchesTrue; decide, by unfold Part.TablesCanonical; decide,
    batched_order, ⟨_, rfl⟩, ⟨_, rfl⟩⟩

/-- The part with a frame's assembly as given. -/
def receiving (l : Line) (a : Assembly) (m : Part) : Part := m.onLink l (fun k => { k with rx := a })

/-- A whole frame between frames, and the byte that ends one under assembly. -/
theorem witness_RouteStateMovesByItsTableAlone :
    OneEvent (.endRoute 1 []) running ∧
    (∃ t, exec (.endRoute 1 []) (calm running) = .next t ∧ t.part.route.state = .returned) ∧
    OneEvent (.overrun .cab 0x24) (receiving .cab (.collecting [0, 2, 0x21, 1, 0]) running) ∧
    ∃ t, exec (.overrun .cab 0x24) (calm (receiving .cab (.collecting [0, 2, 0x21, 1, 0]) running)) = .next t ∧
      t.part.route.state = .returned :=
  ⟨fun l f h _ => by cases h; decide, ⟨_, rfl, by decide⟩, fun l f h _ => (by cases h), ⟨_, rfl, by decide⟩⟩

theorem witness_RequestCommandIsItsBytes :
    Request.readStop ∈ portRequests .cab ∧ Request.nextBatch ∈ portRequests .depot := by decide

theorem witness_OneResponseForOneRequest :
    Request.readState ∈ portRequests .cab ∧ Request.readState ≠ .queryMembers ∧ Request.readState ≠ .clearRoute := by
  decide

/-- A wrong check, a short frame and an out-of-range length; a code of the other port at the greatest length. -/
theorem witness_BadFramesAndUnknownCodes :
    requestOf .cab 0x24 = some .readStop ∧ Ready (calm running) (portLine .cab) ∧ Ready (calm running) (portLine .depot) ∧
    RxFrame.fits (.byLength 0x24 7 [0, 12] 0x003A) = true ∧ RxFrame.checkHolds (.byLength 0x24 7 [0, 12] 0x003A) = false ∧
    RxFrame.fits (.malformed [0]) = true ∧ RxFrame.checkHolds (.malformed [0, 65]) = false ∧
    RxFrame.fits (.malformed [0, 65]) = true ∧
    (List.replicate 62 (0 : Byte)).length + 2 ≤ 64 ∧ requestOf .depot 0x24 = none ∧ requestOf .cab 0xFF = none := by
  decide

theorem witness_SilenceEndsFrames :
    (Part.cold false false false false 0).listening .depot = false ∧ running.listening .cab = true ∧
    (running.link .cab).rx = .collecting [] ∧
    ((receiving .cab .overrun running).link .cab).rx = .overrun ∧
    ((receiving .radio (.collecting [0]) running).link .radio).rx = .collecting [0] ∧
    ((receiving .cab (.badLength [0, 65]) running).link .cab).rx = .badLength [0, 65] ∧
    (receiving .cab (.badLength [0, 65]) running).hasRoom .cab = true ∧
    (receiving .radio (.collecting [0]) running).hasRoom .radio = true ∧
    (crowded .cab 8 (receiving .cab (.collecting [0]) running)).hasRoom .cab = false ∧
    (receiving .cab (.badLength [0, 65]) running).listening .cab = true ∧
    (receiving .radio (.collecting [0]) running).listening .radio = true := by decide

/-- Lengths 1, 2, 64 and 65; the last byte but one of the shortest frame. -/
theorem witness_BytesWhileAFrameIsHeld :
    (Part.cold false false false false 0).listening .depot = false ∧ running.listening .radio = true ∧
    running.listening .cab = true ∧
    ((receiving .cab .overrun running).link .cab).rx = .overrun ∧
    ((receiving .cab (.badLength [0, 1]) running).link .cab).rx = .badLength [0, 1] ∧
    ((running.onLink .cab (fun k => { k with held := some (.malformed [0]) })).link .cab).held = some (.malformed [0]) ∧
    ((running.onLink .radio (fun k => { k with held := some (.malformed [0]) })).link .radio).held = some (.malformed [0]) ∧
    (running.link .cab).held = none ∧ (running.link .cab).rx = .collecting [] ∧
    ((receiving .cab (.collecting [0]) running).link .cab).rx = .collecting [0] ∧
    2 ≤ (0 : Byte).toNat * 256 + (2 : Byte).toNat ∧ (0 : Byte).toNat * 256 + (64 : Byte).toNat ≤ 64 ∧
    ([0x24, 7] : List Byte).length + 1 < (0 : Byte).toNat * 256 + (2 : Byte).toNat + 2 ∧
    ((receiving .cab (.collecting [0, 2, 0x24, 7]) running).link .cab).rx = .collecting [0, 2, 0x24, 7] := by decide

theorem witness_HeldFramesAndTransmitCompletion :
    (crowded .cab 8 running).listening (portLine .cab) = true ∧
    (crowded .cab 8 running).betweenFrames (portLine .cab) = true ∧
    8 ≤ ((crowded .cab 8 running).link (portLine .cab)).waiting ∧ Request.readSweep ∈ portRequests .cab ∧
    (crowded .radio 4 running).listening .radio = true ∧ (crowded .radio 4 running).betweenFrames .radio = true ∧
    4 ≤ ((crowded .radio 4 running).link .radio).waiting ∧
    RxFrame.fits (.byLength 0x24 7 [0, 12] 0x003A) = true ∧ (List.replicate 62 (0 : Byte)).length + 2 ≤ 64 ∧ running.alive = true ∧ (running.link .cab).out = [] ∧
    ((crowded .cab 8 running).link .cab).out = ⟨.ok, 1, .none, false⟩ :: List.replicate 7 ⟨.ok, 1, .none, false⟩ ∧
    ((crowded .cab 8 running).link .cab).held = none ∧
    (((crowded .cab 8 running).onLink .cab (fun k => { k with held := some (.malformed [0]) })).link .cab).held =
      some (.malformed [0]) ∧
    (List.replicate 7 (⟨.ok, 1, .none, false⟩ : Response)).countP (fun q => !q.scan) < 8 ∧
    ¬ (List.replicate 8 (⟨.ok, 1, .none, false⟩ : Response)).countP (fun q => !q.scan) < 8 := by decide

/-- Intake queues of 15 and of 16 entries; the engine free, and evaluating. -/
theorem witness_RadioFramesAnswered :
    Ready (calm running) .radio ∧ telegramT1.length + 2 ≤ 64 ∧ (0x02 : Byte) ≠ telegramCode ∧
    (0 : Word16) ≠ frameCheck telegramCode 3 telegramT1 ∧ telegramOf [] = none ∧
    telegramOf telegramT1 = some (telegramA 190940 1701296000 false) ∧
    Ready (calm returned) .radio ∧ returned.route.state ≠ .running ∧
    Ready (calm { brimming with ports := running.ports }) .radio ∧ 16 ≤ brimming.intake.queue.length ∧
    brimming.route.state = .running ∧ (List.replicate 15 queuedA).length < 16 ∧
    running.route.state = .running ∧ running.intake.queue.length < 16 ∧ running.intake.eval = none ∧
    brimming.intake.eval = some ⟨queuedA, false⟩ := by decide

theorem witness_CompletionDropsTheTelegram :
    running.alive = true ∧ running.intake.eval = none ∧ (evaluating queuedA.telegram returned).alive = true ∧
    (evaluating queuedA.telegram returned).intake.eval = some ⟨queuedA, false⟩ ∧
    (evaluating queuedA.telegram returned).route.state ≠ .running := by decide

/-- A key that hits, a set with its last way free, and a full set. -/
theorem witness_CompletionHearsAStranger :
    (visited 4 (strangerTelegram 3)).alive = true ∧ (visited 4 (strangerTelegram 3)).route.state = .running ∧
    (visited 4 (strangerTelegram 3)).dir.lookup (strangerTelegram 3).key = none ∧
    (visited 4 (strangerTelegram 3)).strangers.lookup (strangerTelegram 3).key = some (71, strangerAt 3) ∧
    (visited 3 (strangerTelegram 5)).strangers.lookup (strangerTelegram 5).key = none ∧
    Table.find (visited 3 (strangerTelegram 5)).strangers.entries (17 * 4 + 3) = none ∧
    (∀ v, v < 3 → Table.find (visited 3 (strangerTelegram 5)).strangers.entries (17 * 4 + v) ≠ none) ∧
    (visited 4 (strangerTelegram 5)).strangers.lookup (strangerTelegram 5).key = none ∧
    (∀ v, v < 4 → Table.find (visited 4 (strangerTelegram 5)).strangers.entries (17 * 4 + v) ≠ none) ∧
    (visited 4 (strangerTelegram 5)).dir.lookup (strangerTelegram 5).key = none ∧
    (visited 4 (strangerTelegram 5)).intake.eval = some ⟨⟨strangerTelegram 5, 4000⟩, false⟩ := by decide

theorem witness_CompletionFirstHearing :
    (evaluating queuedA.telegram running).alive = true ∧
    (evaluating queuedA.telegram running).intake.eval = some ⟨queuedA, false⟩ ∧
    (evaluating queuedA.telegram running).route.state = .running ∧
    Table.Canonical (evaluating queuedA.telegram running).dir.ways ∧
    (evaluating queuedA.telegram running).dir.lookup queuedA.telegram.key = some (2304, memberA) ∧
    memberA.readState ≠ .read := by decide

theorem witness_CompletionLaterHearing :
    (evaluating queuedA.telegram swept).alive = true ∧
    (evaluating queuedA.telegram swept).intake.eval = some ⟨queuedA, false⟩ ∧
    (evaluating queuedA.telegram swept).route.state = .running ∧
    Table.Canonical (evaluating queuedA.telegram swept).dir.ways ∧
    (evaluating queuedA.telegram swept).dir.lookup queuedA.telegram.key =
      some (2304, { memberA with readState := .read, record := some 0 }) ∧
    (evaluating queuedA.telegram swept).store[0]? = some recordA := by decide

/-- The ends of the wrap zone and of the counter's range. -/
theorem witness_ElapsedTimeAndDelta :
    (999 : Nat) < modulus .full ∧ 2 ^ 32 - 1000 < modulus .full ∧ (delta .full profile3 999 (2 ^ 32 - 1000)).2 = indWrap ∧
    32767 < modulus .half ∧ 65535 < modulus .half ∧ (delta .half profile5 32767 32768).2 = indWrap := by decide

/-- Elapsed times at Eshort, one past it, one before Elong, and Elong. -/
theorem witness_CeilingLiesBetweenItsEnds :
    profile3.eshort ≠ 0 ∧ profile3.eshort.toNat < profile3.elong.toNat ∧ 3600 ≤ profile3.eshort.toNat ∧
    profile3.eshort.toNat < 3601 ∧ 3601 < profile3.elong.toNat ∧ profile3.eshort.toNat < 2591999 ∧
    2591999 < profile3.elong.toNat ∧ profile3.elong.toNat ≤ 2592000 := by decide

theorem witness_FirstHearingJudgement :
    (none : Option Reading) = none ∧ (some ⟨184220, start⟩ : Option Reading) = some ⟨184220, start⟩ ∧
    (elapsed start start).1 = 0 ∧ (elapsed (start + 1) start).1 ≠ 0 := by decide

theorem witness_LaterHearingTestsAndExclusions :
    (start - 1).toNat < start.toNat ∧ start.toNat < (start + 1).toNat ∧ (151 : Word32) ≠ 150 ∧
    meets (judgeFirst .full profile3 (some ⟨184220, start⟩) 184500 (telegramA 184500 (start - 1000) false)).indicators
      indClock = true ∧
    meets (judgeFirst .full profile3 none 12000 (telegramA 12000 start true)).indicators indNoHistory = true ∧
    meets (judgeLater .full profile3 151 1800003600 ⟨150, 1800003600⟩).1 (indClock ||| indClone) = true := by decide

theorem witness_TouchAndVictim : (3 : Nat) < 4 ∧ keyA.number.toNat % 64 = keyC.number.toNat % 64 := by decide

/-- Class 2 fires; class 2 was watched and hears a clean telegram, below its clean count and at it. -/
theorem witness_FiringAndTamperFields :
    (3 : Nat) < 4 ∧ inSet (unit5.fired indHighRate) 2 = true ∧ (unit5.classOf 2).mode = .retry ∧
    ¬ (inSet (unit5.fired 0) 2 = true ∧ (unit5.classOf 2).mode = .retry) ∧
    Table.find memberB.watch 2 = none ∧ Table.find [(2, 0)] 2 = some 0 ∧ Table.find [(2, 1)] 2 = some 1 ∧
    0 + 1 < (unit5.classOf 2).clean ∧ ¬ 1 + 1 < (unit5.classOf 2).clean := by decide

theorem witness_AlertOffered :
    inSet unit5.stallClasses 0 = true ∧ inSet unit5.stallClasses 2 = false ∧
    (List.replicate 31 (⟨keyA, 12, 1, indMagnet, .prompt, 3000⟩ : Alert)).length < 32 ∧
    ¬ brimming.tamper.alerts.length < 32 := by decide

theorem witness_DeferredEntriesOfAClose :
    flagged.tamper.alerts.length ≤ 32 ∧ brimming.tamper.alerts.length ≤ 32 ∧ Table.Canonical flagged.dir.ways ∧
    (flagged.dir.ways.filter (fun e => e.2.stop == 12 && e.2.deferred != 0)).length = 1 := by decide

/-- One refusal of each kind: the route state, STALLED, and the body. -/
theorem witness_RefusedRequestsChangeNothing :
    (Request.beginLoad ∈ portRequests .depot ∧ Ready (calm running) (portLine .depot) ∧
      takenIn .beginLoad running.route.state = false) ∧
    (Request.openStop ∈ heldRequests ∧ Ready (calm { running with tamper := { unit5 with stalled := true } }) .cab ∧
      unit5.pass = false) ∧
    (Request.queryMembers ∈ portRequests .cab ∧ Ready (calm running) (portLine .cab) ∧
      takenIn .queryMembers running.route.state = true ∧ Request.queryMembers ∉ heldRequests ∧
      (running.port .cab).scan = none ∧ (∀ x ∈ (running.port .cab).link.out, x.scan = false) ∧
      bodyTaken .queryMembers .cab [15, 7, 15, 3, 0, 0, 0, 0x20, 0x00] = false) ∧
    takenIn .openStop running.route.state = true ∧ running.tamper.stalled = false ∧
    bodyTaken .openStop .cab [2, 0] = false ∧ (List.replicate 62 (0 : Byte)).length + 2 ≤ 64 := by decide

/-- Bodies at the ends of the fields' ranges. -/
theorem witness_LoadingBodyLayouts :
    loadStopOf [1, 255, 1, 255] = some ⟨511, .carry, 255⟩ ∧ loadStopOf [2, 0, 1, 255] = none ∧
    loadMemberOf loadMemberA = some ⟨keyA, 12, .full, 3, some ⟨184220, 1700000000⟩⟩ ∧
    loadMemberOf ((loadMemberA.set 9 0).take 10) = some ⟨keyA, 12, .full, 3, none⟩ ∧
    loadProfileOf [15, 0, 0, 0, 1, 0, 0, 0, 2, 0, 0, 0, 1, 0, 0, 0, 2, 0, 5, 0, 6, 0, 0, 0, 0] =
      some (15, ⟨1, 2, 1, 2, 5, 6, 0⟩) ∧
    (loadClassOf [3, 0x0F, 0xFF, 3, 1, 1, 255]).map (fun e => (e.1, e.2.clean)) = some (3, 15) := by decide

theorem witness_OtherBodyLayouts :
    telegramOf (telegramT1.set 13 0xF1) = some (telegramA 190940 1701296000 true) ∧
    clearTamperOf [0, 0x0F, 0x42, 0x40, 1, 15] = some (keyA, 15) ∧
    closeStopOf [1, 255, 0, 9] = some (511, none) ∧ closeStopOf [1, 255, 1, 2] = some (511, some .linger) ∧
    closeStopOf [1, 255, 1, 9] = none ∧ stopOf [1, 255] = some 511 ∧ stopOf [2, 0] = none ∧
    batchNumberOf [0, 0] = none ∧ batchNumberOf [255, 255] = some 65535 ∧ startPlaceOf [31] = some 31 ∧ startPlaceOf [32] = none ∧
    startPositionOf [0, 255] = some 255 ∧ startPositionOf [1, 0] = none ∧ discardOf [1] = some true ∧ passOf [2] = none ∧ readMemberOf [0, 0x0F, 0x42, 0x40, 1] = some keyA ∧
    queryOf [15, 7, 15, 3, 0, 9, 9, 0x1F, 0xFF] = some (⟨15, 7, 15, 3, none⟩, 8191) ∧
    queryOf [5, 7, 15, 3, 1, 1, 255, 0, 0] = some (⟨5, 7, 15, 3, some 511⟩, 0) ∧
    eventsOf .cab [2, 0x08] = some 0x208 ∧ eventsOf .cab [4, 0] = none := by decide

theorem witness_LoadingBeginsAndRouteStarts :
    Ready (stateAt .empty) .depot ∧ (stateAt .empty).part.route.state = .empty ∧
    Ready (stateAt .ready) .cab ∧ (stateAt .ready).part.route.state = .ready := by decide

theorem witness_StopsProfilesAndClassesLoad :
    Ready (stateAt .loading) .depot ∧ loadStopOf [0, 12, 1, 30] = some ⟨12, .carry, 30⟩ ∧
    (partAt .loading).stop 12 = none ∧
    Part.stop { partAt .loading with stops := running.stops } 12 ≠ none ∧
    Ready (calm { partAt .loading with stops := running.stops }) .depot ∧
    (loadProfileOf [15, 0, 0, 0, 1, 0, 0, 0, 2, 0, 0, 0, 1, 0, 0, 0, 2, 0, 5, 0, 6, 0, 0, 0, 0]).isSome = true ∧
    (loadClassOf [3, 0x0F, 0xFF, 3, 1, 1, 255]).isSome = true := by decide

/-- Set 576 with its last way free, full, and holding the key. -/
def crowd (n : Nat) : Part :=
  { partAt .loading with dir :=
    ⟨(List.range n).map (fun w => (2304 + w, .loaded ⟨BitVec.ofNat 32 (576 + 2048 * w), .gas⟩ 1 .full 0 none)),
      ⟨n, n, 0, 0, 0⟩⟩ }

theorem witness_LoadMemberAddsAMember :
    Ready (calm (crowd 3)) .depot ∧ (crowd 3).route.state = .loading ∧
    loadMemberOf loadMemberA = some ⟨keyA, 12, .full, 3, some ⟨184220, 1700000000⟩⟩ ∧
    (∀ e ∈ (crowd 4).dir.ways, e.1 / 4 = 576 → e.2.key ≠ keyA) ∧
    (∀ w, w < 4 → Table.find (crowd 4).dir.ways (576 * 4 + w) ≠ none) ∧
    Table.find (crowd 3).dir.ways (576 * 4 + 3) = none ∧
    (∀ v, v < 3 → Table.find (crowd 3).dir.ways (576 * 4 + v) ≠ none) ∧
    (∃ e ∈ running.dir.ways, e.1 / 4 = 576 ∧ e.2.key = keyA) := by decide

def booked (profiles : ProfileSet) (stops : List Nat) (ways : Table Member) : Part :=
  { partAt .loading with
    route := ⟨.loading, 0, false, stops.length, profiles, 0⟩
    dir := ⟨ways, ⟨ways.length, ways.length, 0, 0, 0⟩⟩
    stops := ⟨stops.map (fun n => (n, { stop12 with number := n, state := .pending })),
      Vector.replicate 4 ⟨none, none⟩, [], []⟩ }

def memberD : Member := .loaded ⟨1002048, .gas⟩ 40 .full 7 none

/-- No stop; a missing stop; a missing profile; a book that passes. -/
theorem witness_FinishLoadChecksTheBook :
    Ready (calm (booked 0 [] [])) .depot ∧ (booked 0 [] []).route.stopsLoaded = 0 ∧
    (booked 8 [12] [(2304, memberA), (2307, memberD)]).route.stopsLoaded ≠ 0 ∧
    (booked 8 [12] [(2304, memberA), (2307, memberD)]).dir.ways = [(2304, memberA)] ++ (2307, memberD) :: [] ∧
    (booked 8 [12] [(2304, memberA), (2307, memberD)]).stop memberD.stop = none ∧
    (∀ e ∈ [((2304 : Nat), memberA)], (booked 8 [12] [(2304, memberA), (2307, memberD)]).stop e.2.stop ≠ none) ∧
    (booked 8 [12, 40] [(2304, memberA), (2307, memberD)]).route.profilesLoaded.getLsbD memberD.profile = false ∧
    (∀ e ∈ (booked 8 [12, 40] [(2304, memberA), (2307, memberD)]).dir.ways,
      (booked 8 [12, 40] [(2304, memberA), (2307, memberD)]).stop e.2.stop ≠ none) ∧
    (∀ e ∈ [((2304 : Nat), memberA)],
      (booked 8 [12, 40] [(2304, memberA), (2307, memberD)]).route.profilesLoaded.getLsbD e.2.profile = true) ∧
    (∀ e ∈ (booked 0x88 [12, 40] [(2304, memberA), (2307, memberD)]).dir.ways,
      (booked 0x88 [12, 40] [(2304, memberA), (2307, memberD)]).stop e.2.stop ≠ none ∧
      (booked 0x88 [12, 40] [(2304, memberA), (2307, memberD)]).route.profilesLoaded.getLsbD e.2.profile = true) ∧
    (∀ n, n < 4 → ((booked 0x88 [12, 40] []).route.classesLoaded.getLsbD n = true ↔
      Table.find (booked 0x88 [12, 40] []).tamper.classes n ≠ none)) := by decide

theorem witness_EndRouteReturnsTheRoute :
    Ready (calm flagged) .cab ∧ flagged.route.state = .running ∧ flagged.tamper.stalled = false ∧
    flagged.tamper.alerts.length ≤ 32 ∧ Table.Canonical flagged.dir.ways := by decide

/-- Without DISCARD in RUNNING; with it, with no scan and with one on the depot port. -/
theorem witness_ClearRouteEmptiesTheRoute :
    Ready (calm running) .depot ∧ running.route.state ≠ .empty ∧ running.route.state = .running ∧
    running.ports.depot.scan = none ∧ (stateAt .done).part.route.state = .done ∧ Ready (stateAt .done) .depot ∧
    (running.onPort .depot (fun k => { k with scan := some ⟨40, ⟨5, 7, 15, 3, none⟩, 0, []⟩ })).ports.depot.scan =
      some ⟨40, ⟨5, 7, 15, 3, none⟩, 0, []⟩ := by decide

theorem witness_BeginUploadFormsTheOrder :
    Ready (calm returned) .depot ∧ returned.route.state = .returned ∧ Ready (stateAt .returned) .depot := by decide

/-- Two batches outstanding; no item FRESH; items FRESH, the counter at 65,535 with batch 1 still outstanding. -/
theorem witness_NextBatchFormsABatch :
    Ready (calm uploading) .depot ∧ uploading.route.state = .uploading ∧ uploading.store[0]? = some recordA ∧
    (uploading.dir.lookup keyB).isSome = true ∧ Table.find (visited 4 (strangerTelegram 3)).strangers.entries 71 = some (strangerAt 3) ∧
    2 ≤ ([⟨1, [0], ⟨20, false⟩⟩, ⟨2, [1], ⟨20, false⟩⟩] : List Batch).length ∧
    batched.upload.batches.length < 2 ∧
    (List.range batched.upload.items.length).filter
      (fun n => batched.upload.items[n]?.map batched.itemState == some UploadState.fresh) = [] ∧
    uploading.upload.batches.length < 2 ∧ uploading.upload.counter = 65535 ∧
    (List.range uploading.upload.items.length).filter
      (fun n => uploading.upload.items[n]?.map uploading.itemState == some UploadState.fresh) ≠ [] := by decide

/-- STALE; a batch whose confirmation is the last; one whose last second has ended, and one in its last second. -/
theorem witness_BatchesAreRetired :
    Ready (calm batched) .depot ∧ batched.route.state = .uploading ∧ batchNumberOf [0xFF, 0xFF] = some 65535 ∧
    batchNumberOf [0, 1] = some 1 ∧ batched.upload.batch 65535 = none ∧
    batched.upload.batch 1 = some ⟨1, [0, 1, 2], ⟨1, true⟩⟩ ∧ batched.alive = true ∧
    Upload.batch ⟨none, [⟨1, [0], ⟨1, false⟩⟩], 1⟩ 1 = some ⟨1, [0], ⟨1, false⟩⟩ := by decide

theorem witness_AlertsAcknowledgedAndPassSet :
    Ready (calm running) .cab ∧ running.tamper.alerts = [] ∧ Ready (calm { brimming with ports := running.ports }) .cab ∧
    brimming.tamper.alerts = ⟨keyA, 12, 1, indMagnet, .prompt, 3000⟩ ::
      List.replicate 31 ⟨keyA, 12, 1, indMagnet, .prompt, 3000⟩ ∧ passOf [1] = some true := by decide

theorem witness_ClearTamperRemovesClasses :
    Ready (calm flagged) .depot ∧ flagged.route.state ≠ .empty ∧ flagged.route.state ≠ .loading ∧
    clearTamperOf [0, 0x0F, 0x52, 0x40, 1, 1] = some (keyB, 1) ∧ (flagged.dir.lookup keyB).isSome = true ∧
    flagged.dir.lookup ⟨1000000, .gas⟩ = none ∧ Table.Canonical flagged.dir.ways := by decide

/-- Slot 3 alone free, and no slot free. -/
def slotsHeld (s3 : Option Nat) : Part :=
  { running with stops := { running.stops with
      slots := #v[⟨some 12, none⟩, ⟨some 13, none⟩, ⟨some 14, none⟩, ⟨s3, none⟩] } }

theorem witness_OpenStopTakesTheLowestSlot :
    Ready (calm running) .cab ∧ running.route.state = .running ∧ running.tamper.stalled = false ∧
    stopOf [1, 255] = some 511 ∧ stopOf [0, 40] = some 40 ∧ stopOf [0, 12] = some 12 ∧ running.stop 511 = none ∧
    running.stop 40 = some stop40 ∧ stop40.state = .pending ∧ running.stop 12 = some stop12 ∧ stop12.state ≠ .pending ∧
    (∀ i : Fin 4, (slotsHeld (some 15)).stops.slots[i].stop ≠ none) ∧
    (slotsHeld none).stops.slots[(3 : Fin 4)].stop = none ∧
    ∀ j : Fin 4, j < 3 → (slotsHeld none).stops.slots[j].stop ≠ none := by decide

/-- Stop 12 OPEN, stop 40 PENDING, and in the swept route stop 12 CLOSED and stop 40 in LINGER with its last second ended. -/
theorem witness_CloseStopLingersOrCloses :
    Ready (calm running) .cab ∧ Ready (calm swept) .cab ∧ closeStopOf [0, 12, 1, 2] = some (12, some .linger) ∧
    closeStopOf [0, 40, 1, 0] = some (40, some .drop) ∧ running.stop 12 = some stop12 ∧ stop12.number = 12 ∧
    stop12.state = .opened ∧ stop12.lingerTime ≠ 0 ∧ stop12.slot = some 0 ∧ stop12.mode = .carry ∧
    stop40.state = .pending ∧ running.stop 511 = none ∧
    swept.stop 40 = some { stop40 with state := .lingering, slot := some 1, openTime := some 3900 } ∧
    swept.alive = true ∧ swept.stops.slots[(1 : Fin 4)] = ⟨some 40, some ⟨1, true⟩⟩ ∧
    swept.stops.slots[(0 : Fin 4)].timer = none ∧ (⟨1, false⟩ : Timer).due = false := by decide

/-- Stop 12's three UNREAD members meet an empty sweep list, and one with 1 place left. -/
theorem witness_StopCloseDealsWithItsMembers :
    running.stop stop12.number = some stop12 ∧ Table.Canonical running.dir.ways ∧
    running.stops.sweep.length ≤ 1024 ∧ running.tamper.alerts.length ≤ 32 ∧
    (List.replicate 1023 (⟨keyC, 40⟩ : SweepEntry)).length ≤ 1024 ∧
    (running.dir.ways.filter (fun e => e.2.stop == stop12.number && e.2.readState == .unread)).length = 3 :=
  ⟨by decide, by decide, by decide, by decide, List.length_replicate.trans_le (by decide), by decide⟩

theorem witness_SkipSweepGivesUpTheHead :
    Ready (calm swept) .cab ∧ swept.route.state = .running ∧ swept.tamper.stalled = false ∧
    running.stops.sweep = [] ∧ swept.stops.sweep = ⟨keyC, 12⟩ :: [⟨keyB, 12⟩] ∧ Table.Canonical swept.dir.ways ∧
    (swept.dir.lookup keyC).isSome = true := by decide

/-- Place 31, and first positions 0 and 255. -/
theorem witness_ReadsChangeNothing :
    Ready (calm swept) .cab ∧ Ready (calm swept) (portLine .depot) ∧ stopOf [0, 40] = some 40 ∧
    (swept.stop 40).isSome = true ∧ swept.stop 511 = none ∧ (31 : Nat) ≤ 31 ∧ readMemberOf [0, 0x0F, 0x42, 0x40, 1] = some keyA ∧
    (swept.dir.lookup keyA).isSome = true ∧ swept.dir.lookup ⟨1, .gas⟩ = none ∧ (255 : Nat) ≤ 255 ∧
    (((visited 4 (strangerTelegram 3)).strangers.entries.filter (fun e => decide (0 ≤ e.1))).take 8).length < 8 ∧
    ((((List.range 9).map (fun p => (p, strangerAt p))).filter (fun e => decide (1 ≤ e.1))).take 8).getLast? =
      some (8, strangerAt 8) := by decide

theorem witness_ReadStateReportsEveryFigure :
    Ready (calm batched) (portLine .cab) ∧ Ready (calm batched) (portLine .depot) ∧ ([0] : List Byte) ≠ [] ∧
    (List.replicate 62 (0 : Byte)).length + 2 ≤ 64 ∧
    (Part.cold false false false false 0).ports.dock = .undocked ∧
    (Part.cold false false false false 0).listening (portLine .depot) = false := by decide

/-- A scan in flight; an empty selection; a scan past its last position; a sixteenth match. -/
theorem witness_QueriesScanTheDirectory :
    Ready (calm scanning) (portLine .cab) ∧ scanning.route.state ≠ .empty ∧ (scanning.port .cab).scan.isSome = true ∧
    (running.port .cab).scan = none ∧ (∀ x ∈ (running.port .cab).link.out, x.scan = false) ∧
    queryOf [0, 7, 15, 3, 0, 0, 0, 0x1F, 0xFF] = some (⟨0, 7, 15, 3, none⟩, 8191) ∧
    queryOf [15, 7, 15, 3, 0, 0, 0, 0, 0] = some (⟨15, 7, 15, 3, none⟩, 0) ∧
    scanning.alive = true ∧ (2305 : Nat) < 8191 ∧ (8191 : Nat) ≤ 8191 ∧
    16 ≤ (List.replicate 16 (⟨0, keyA, 12, .unread, .clean⟩ : Match)).length := by decide

theorem witness_EventsClearedAndMasked :
    Ready (calm running) (portLine .cab) ∧ eventsOf .cab [3, 0xFF] = some 0x3FF ∧
    Ready (calm running) (portLine .depot) ∧ eventsOf .depot [4, 0] = some evDocked := by decide

/-- The part running, and the part held by its RESET line. -/
theorem witness_DockLineMoves :
    batched.alive = true ∧ (Part.cold false false false true 0).alive = false := by decide

theorem witness_PortResetsClearTheirPort :
    batched.alive = true ∧ ∃ t u, exec .cabPortReset (calm batched) = .next t ∧
      exec .depotPortReset (calm batched) = .next u := ⟨rfl, _, _, rfl, rfl⟩

/-- A stop in LINGER before the restart. -/
theorem witness_WarmRestarted :
    swept.SlotsTrue ∧ (swept.stops.records.filter (fun e => e.2.state == .lingering)).map Prod.fst = [40] ∧
    (after .reset swept).map (fun m => m.stops.records.map (fun e => (e.1, e.2.state))) =
      some [(12, .closed), (40, .closed)] := ⟨swept_slots, by decide⟩

/-- The supply on and off, the RESET line held and not, the marker VALID and INVALID, a start due. -/
theorem witness_PowerAndResetStartThePart :
    swept.power = ⟨true, .valid, false, none⟩ ∧
    Part.power { swept with power := ⟨false, .invalid, true, none⟩ } = ⟨false, .invalid, true, none⟩ ∧
    (after .powerLoss swept).map Part.power = some ⟨false, .valid, false, none⟩ ∧
    ((after .powerLoss swept).bind (after .reset)).map Part.power = some ⟨false, .valid, true, none⟩ ∧
    (((after .powerLoss swept).bind (after .reset)).bind (after (.powerUp true))).map Part.power =
      some ⟨true, .valid, true, some .warm⟩ ∧
    (((after .powerLoss swept).bind (after .reset)).bind (after (.powerUp false))).map Part.power =
      some ⟨true, .invalid, true, some .cold⟩ := by decide

theorem witness_SecondsCount :
    running.alive = true ∧ (Part.cold false false false true 0).alive = false := by decide

end Sys2Proof.Tests
end

section
/-! SUPPORT. What one event can do, said once: the blocks' own effects, apart from the ports, the power lines and the
model's counter of choices. Every command is a chain of such events, and a single one where it is one event (log 1). -/

namespace Sys2Proof.Machine

/-! Parts that differ in their ports, power and counter of choices alone -/

/-- The blocks of the two parts, ports, power and the counter of choices left aside, are the same. -/
def Part.SameBlocks (m n : Part) : Prop :=
  ∃ ports power choices, n = { m with ports := ports, power := power, choices := choices }

namespace Part.SameBlocks

theorem refl (m : Part) : m.SameBlocks m := ⟨_, _, _, rfl⟩

theorem symm {m n : Part} : m.SameBlocks n → n.SameBlocks m := by
  rintro ⟨_, _, _, rfl⟩
  exact ⟨_, _, _, rfl⟩

theorem trans {m n k : Part} : m.SameBlocks n → n.SameBlocks k → m.SameBlocks k := by
  rintro ⟨_, _, _, rfl⟩ ⟨_, _, _, rfl⟩
  exact ⟨_, _, _, rfl⟩

theorem onPort (p : HostPort) (f : PortState → PortState) (m : Part) : m.SameBlocks (m.onPort p f) := by
  cases p <;> exact ⟨_, _, _, rfl⟩

theorem onLink (l : Line) (f : Link → Link) (m : Part) : m.SameBlocks (m.onLink l f) := by
  cases l <;> exact ⟨_, _, _, rfl⟩

theorem setShared (e : EventSet) (m : Part) : m.SameBlocks (m.setShared e) := ⟨_, _, _, rfl⟩

theorem setLocal (p : HostPort) (e : EventSet) (m : Part) : m.SameBlocks (m.setLocal p e) := onPort p _ m

theorem send (l : Line) (r : Response) (m : Part) : m.SameBlocks (m.send l r) := by
  unfold Part.send
  exact onLink ..

theorem answer (p : HostPort) (tag : Byte) (code : ReplyCode) (body : Reply) (m : Part) :
    m.SameBlocks (m.answer p tag code body) := send (portLine p) ⟨code, tag, body, false⟩ m

theorem refuse (p : HostPort) (tag : Byte) (code : ReplyCode) (m : Part) : m.SameBlocks (m.refuse p tag code) :=
  answer p tag code .none m

theorem answerRadio (tag : Byte) (code : ReplyCode) (m : Part) : m.SameBlocks (m.answerRadio tag code) :=
  send .radio ⟨code, tag, .none, false⟩ m

theorem setScan (p : HostPort) (c : Option Scan) (m : Part) : m.SameBlocks (m.setScan p c) := onPort p _ m

theorem assemble (l : Line) (a : Assembly) (m : Part) : m.SameBlocks (m.assemble l a) := onLink l _ m

theorem clearEvents (p : HostPort) (e : EventSet) (m : Part) : m.SameBlocks (m.clearEvents p e) :=
  trans (n := { m with ports := { m.ports with shared := without m.ports.shared e } }) ⟨_, _, _, rfl⟩ (onPort p _ _)

theorem endScan (p : HostPort) (m : Part) : m.SameBlocks (m.endScan p) := by
  unfold Part.endScan
  split
  · exact refl m
  · exact (setScan p none m).trans (send ..)

theorem answerClear (tag : Byte) (m : Part) : m.SameBlocks (m.answerClear tag) := by
  have hcab := endScan .cab m
  unfold Part.answerClear
  dsimp only
  split
  · exact hcab.trans (answer ..)
  · have hcount : m.SameBlocks { m.endScan .cab with choices := (m.endScan .cab).choices + 1 } :=
      hcab.trans ⟨_, _, _, rfl⟩
    split
    · exact hcount.trans ((endScan ..).trans (answer ..))
    · exact hcount.trans ((answer ..).trans (endScan ..))

theorem startOverrun (l : Line) (m : Part) : m.SameBlocks (startOverrun l m) := by
  unfold Machine.startOverrun
  dsimp only
  split
  · exact onLink ..
  · exact (onLink ..).trans (setLocal ..)

end Part.SameBlocks

/-! Effects -/

/-- What an event can make of the part, ports aside, where it loads nothing, empties no route table and leaves the route
state and the route clock: the work of a route under way. -/
inductive Routine : Part → Part → Prop
  | none {m : Part} : Routine m m
  | openStop {m : Part} {n : Nat} {r : Stop} {i : Fin 4} (hstate : m.route.state = .running)
      (hheld : m.held = false) (hstop : m.stop n = some r) (hpending : r.state = .pending)
      (hslot : m.stops.freeSlot = some i) : Routine m (m.onStops (Stops.openIn i m.route.clock n))
  | startLinger {m : Part} {n : Nat} {r : Stop} {override : Option CloseMode} (hstate : m.route.state = .running)
      (hheld : m.held = false) (hstop : m.stop n = some r) (hopen : r.state = .opened ∨ r.state = .lingering)
      (hmode : effectiveMode r override = .linger) : Routine m (m.onStops (Stops.startLinger r))
  | closeStop {m : Part} {n : Nat} {r : Stop} {override : Option CloseMode} (hstate : m.route.state = .running)
      (hheld : m.held = false) (hstop : m.stop n = some r) (hopen : r.state = .opened ∨ r.state = .lingering)
      (hmode : effectiveMode r override ≠ .linger) :
      Routine m (m.closeStop r (effectiveMode r override == .drop)).part
  | expireLinger {m : Part} {i : Fin 4} {n : Nat} {r : Stop} {t : Timer} (hslot : m.stops.slots[i].stop = some n)
      (hstop : m.stop n = some r) (htimer : m.stops.slots[i].timer = some t) (hdue : t.due = true) :
      Routine m (m.closeStop r false).part
  | acknowledge {m : Part} :
      Routine m { m with tamper := { m.tamper with
        alerts := m.tamper.alerts.tail, stalled := stalledAfter m.tamper m.tamper.alerts.tail } }
  | setPass {m : Part} {on : Bool} : Routine m { m with tamper := { m.tamper with pass := on } }
  | clearTamper {m : Part} {key : Key} {classes : ClassSet} {position : Nat} {r : Member}
      (hempty : m.route.state ≠ .empty) (hloading : m.route.state ≠ .loading)
      (hmember : m.dir.lookup key = some (position, r)) : Routine m (m.onMember position (Member.cleared classes))
  | nextBatch {m : Part} (hstate : m.route.state = .uploading)
      (hroom : m.upload.batches.length < Config.batchPlaces) (hfresh : m.freshItems ≠ []) :
      Routine m (m.formBatch m.upload.newNumber (m.freshItems.take Config.batchItems))
  | returnBatch {m : Part} {n : Nat} {b : Batch} (hbatch : m.upload.batch n = some b) : Routine m (m.returnBatch b)
  | returnBatches {m : Part} : Routine m m.returnBatches
  | queueTelegram {m : Part} {t : Telegram} (hstate : m.route.state = .running)
      (hroom : m.intake.queue.length < Config.intakePlaces) : Routine m (m.queueTelegram t)
  | warmStart {m : Part} : Routine m m.clearVolatile.closeLingering.returnBatches
  | clearVolatile {m : Part} : Routine m m.clearVolatile

/-- What an event can make of the part, ports aside: the routine of a route under way, loading, the moves of the route
state, a telegram's completion, a member given up, the clock, and a cold start. -/
inductive Effect : Part → Part → Prop
  | routine {m n : Part} (h : Routine m n) : Effect m n
  | beginLoad {m : Part} (hstate : m.route.state = .empty) : Effect m (m.moveRoute .loading)
  | loadStop {m : Part} {body : List Byte} {f : LoadStopFields} (hstate : m.route.state = .loading)
      (hbody : loadStopOf body = some f) (hnew : m.stop f.stop = none) :
      Effect m { m with
        stops := { m.stops with
          records := Table.put f.stop (.loaded f m.route.stopsLoaded) m.stops.records }
        route := { m.route with stopsLoaded := m.route.stopsLoaded + 1 } }
  | loadMember {m : Part} {key : Key} {stop : Nat} {width : Width} {profile : Nat} {prior : Option Reading}
      {position : Nat} (hstate : m.route.state = .loading) (hnew : m.dir.lookup key = none)
      (hfree : m.dir.freePosition key = some position) :
      Effect m { m with dir := m.dir.fill position (.loaded key stop width profile prior) }
  | loadProfile {m : Part} {body : List Byte} {n : Nat} {p : Profile} (hstate : m.route.state = .loading)
      (hbody : loadProfileOf body = some (n, p)) :
      Effect m { m with
        profiles := Table.put n p m.profiles
        route := { m.route with profilesLoaded := m.route.profilesLoaded ||| BitVec.ofNat 16 (2 ^ n) } }
  | loadClass {m : Part} {body : List Byte} {n : Nat} {c : ClassRecord} (hstate : m.route.state = .loading)
      (hbody : loadClassOf body = some (n, c)) :
      Effect m { m with
        tamper := { m.tamper with classes := Table.put n c m.tamper.classes }
        route := { m.route with classesLoaded := m.route.classesLoaded ||| BitVec.ofNat 4 (2 ^ n) } }
  | finishLoad {m : Part} (hstate : m.route.state = .loading) (hgap : m.loadGap = none) :
      Effect m (m.countMembers.fillClasses.moveRoute .ready)
  | clearRoute {m : Part} (hstate : m.route.state ≠ .empty) : Effect m (m.emptyRoute.moveRoute .empty)
  | beginUpload {m : Part} (hstate : m.route.state = .returned) :
      Effect m (m.formOrder.moveRoute m.formOrder.uploadState)
  | startRoute {m : Part} (hstate : m.route.state = .ready) :
      Effect m (Part.moveRoute .running { m with route := { m.route with clock := 0, clockRunning := true } })
  | endRoute {m : Part} (hstate : m.route.state = .running) (hheld : m.held = false) :
      Effect m (m.endRoute.moveRoute .returned)
  | skipSweep {m : Part} {e : SweepEntry} {rest : List SweepEntry} (hstate : m.route.state = .running)
      (hheld : m.held = false) (hsweep : m.stops.sweep = e :: rest) : Effect m (m.skipHead e rest)
  | confirmBatch {m : Part} {n : Nat} {b : Batch} (hstate : m.route.state = .uploading)
      (hbatch : m.upload.batch n = some b) : Effect m (m.confirmItems b).finishUpload
  | completeTelegram {m : Part} {e : Evaluation} (heval : m.intake.eval = some e) : Effect m (m.completeTelegram e)
  | endSecond {m : Part} : Effect m m.endSecond
  | coldStart {m : Part} : Effect m m.coldStart

/-- One event: an effect on the blocks, with whatever it does to ports, power lines and the counter of choices before
and after. -/
def Event (m n : Part) : Prop := ∃ m₀ n₀, m.SameBlocks m₀ ∧ Effect m₀ n₀ ∧ n₀.SameBlocks n

theorem Effect.event {m n₀ n : Part} (h : Effect m n₀) (hn : n₀.SameBlocks n) : Event m n :=
  ⟨m, n₀, .refl m, h, hn⟩

theorem Part.SameBlocks.event {m n : Part} (h : m.SameBlocks n) : Event m n := (Effect.routine .none).event h

theorem Part.SameBlocks.event_of {m m₀ n : Part} (h : m.SameBlocks m₀) : Event m₀ n → Event m n := by
  rintro ⟨m₁, n₁, h₁, he, hn⟩
  exact ⟨m₁, n₁, h.trans h₁, he, hn⟩

theorem Event.same (m : Part) : Event m m := (Part.SameBlocks.refl m).event

theorem Routine.event {m n₀ n : Part} (h : Routine m n₀) (hn : n₀.SameBlocks n) : Event m n :=
  (Effect.routine h).event hn

/-- An effect that is answered. -/
theorem Effect.answered {m n : Part} (h : Effect m n) (tag : Byte) (p : HostPort) (code : ReplyCode) (reply : Reply) :
    Event m (n.answer p tag code reply) := h.event (.answer p tag code reply n)

theorem Routine.answered {m n : Part} (h : Routine m n) (tag : Byte) (p : HostPort) (code : ReplyCode) (reply : Reply) :
    Event m (n.answer p tag code reply) := (Effect.routine h).answered tag p code reply

/-! The requests -/

section Requests

variable (tag : Byte) (body : List Byte) (m : Part)

/-- A refused request leaves every block as it was. -/
theorem refuse_event (p : HostPort) (code : ReplyCode) : Event m (m.refuse p tag code) :=
  (Part.SameBlocks.refuse p tag code m).event

/-- An answer leaves every block as it was. -/
theorem answer_event (p : HostPort) (code : ReplyCode) (reply : Reply) : Event m (m.answer p tag code reply) :=
  (Part.SameBlocks.answer p tag code reply m).event

theorem serveBeginLoad_event : Event m (serveBeginLoad tag body m) := by
  unfold serveBeginLoad
  split_ifs with hstate
  · exact refuse_event ..
  · exact refuse_event ..
  · exact (Effect.beginLoad (not_not.mp hstate)).answered ..

theorem serveLoadStop_event : Event m (serveLoadStop tag body m) := by
  unfold serveLoadStop
  split_ifs with hstate
  · exact refuse_event ..
  · split
    · exact refuse_event ..
    · next f hbody =>
      split_ifs with hnew
      · exact refuse_event ..
      · exact (Effect.loadStop (not_not.mp hstate) hbody (by simpa using hnew)).answered ..

theorem serveLoadMember_event : Event m (serveLoadMember tag body m) := by
  unfold serveLoadMember
  split_ifs with hstate
  · exact refuse_event ..
  · split
    · exact refuse_event ..
    · next f _ =>
      split_ifs with hnew
      · exact refuse_event ..
      · split
        · exact refuse_event ..
        · next hfree => exact (Effect.loadMember (not_not.mp hstate) (by simpa using hnew) hfree).answered ..

theorem serveLoadProfile_event : Event m (serveLoadProfile tag body m) := by
  unfold serveLoadProfile
  split_ifs with hstate
  · exact refuse_event ..
  · split
    · exact refuse_event ..
    · next hbody => exact (Effect.loadProfile (not_not.mp hstate) hbody).answered ..

theorem serveLoadClass_event : Event m (serveLoadClass tag body m) := by
  unfold serveLoadClass
  split_ifs with hstate
  · exact refuse_event ..
  · split
    · exact refuse_event ..
    · next hbody => exact (Effect.loadClass (not_not.mp hstate) hbody).answered ..

theorem serveFinishLoad_event : Event m (serveFinishLoad tag body m) := by
  unfold serveFinishLoad
  split_ifs with hstate
  · exact refuse_event ..
  · exact refuse_event ..
  · split
    · exact answer_event ..
    · next hgap => exact (Effect.finishLoad (not_not.mp hstate) hgap).answered ..

theorem serveClearRoute_event : Event m (serveClearRoute tag body m) := by
  unfold serveClearRoute
  split_ifs with hstate
  · exact refuse_event ..
  · split
    · exact refuse_event ..
    · split_ifs
      · exact refuse_event ..
      · exact (Effect.clearRoute hstate).event (.answerClear ..)

theorem serveBeginUpload_event : Event m (serveBeginUpload tag body m) := by
  unfold serveBeginUpload
  split_ifs with hstate
  · exact refuse_event ..
  · exact refuse_event ..
  · exact (Effect.beginUpload (not_not.mp hstate)).answered ..

theorem serveStartRoute_event : Event m (serveStartRoute tag body m) := by
  unfold serveStartRoute
  split_ifs with hstate
  · exact refuse_event ..
  · exact refuse_event ..
  · exact (Effect.startRoute (not_not.mp hstate)).answered ..

theorem serveEndRoute_event : Event m (serveEndRoute tag body m) := by
  unfold serveEndRoute
  split_ifs with hstate hheld
  · exact refuse_event ..
  · exact refuse_event ..
  · exact refuse_event ..
  · exact (Effect.endRoute (not_not.mp hstate) (by simpa using hheld)).answered ..

theorem serveOpenStop_event : Event m (serveOpenStop tag body m) := by
  unfold serveOpenStop
  split_ifs with hstate hheld
  · exact refuse_event ..
  · exact refuse_event ..
  · split
    · exact refuse_event ..
    · split
      · exact refuse_event ..
      · next hstop =>
        split_ifs with hpending
        · exact refuse_event ..
        · split
          · exact refuse_event ..
          · next hslot =>
            exact (Routine.openStop (not_not.mp hstate) (by simpa using hheld) hstop (not_not.mp hpending)
              hslot).answered ..

theorem serveCloseStop_event : Event m (serveCloseStop tag body m) := by
  unfold serveCloseStop
  split_ifs with hstate hheld
  · exact refuse_event ..
  · exact refuse_event ..
  · split
    · exact refuse_event ..
    · next n override _ =>
      split
      · exact refuse_event ..
      · next r hstop =>
        split_ifs with hclosed
        · exact refuse_event ..
        · have hopen : r.state = .opened ∨ r.state = .lingering := by
            cases h : r.state <;> simp_all
          have hrun := not_not.mp hstate
          have hfree : m.held = false := by simpa using hheld
          unfold Part.takeClose
          split
          · next hmode => exact (Routine.startLinger hrun hfree hstop hopen hmode).answered ..
          · next hmode => exact (Routine.closeStop hrun hfree hstop hopen hmode).answered ..

theorem serveReadStop_event : Event m (serveReadStop tag body m) := by
  unfold serveReadStop
  split
  · exact refuse_event ..
  · split
    · exact refuse_event ..
    · exact answer_event ..

theorem serveSkipSweep_event : Event m (serveSkipSweep tag body m) := by
  unfold serveSkipSweep
  split_ifs with hstate hheld
  · exact refuse_event ..
  · exact refuse_event ..
  · exact refuse_event ..
  · split
    · exact refuse_event ..
    · next hsweep => exact (Effect.skipSweep (not_not.mp hstate) (by simpa using hheld) hsweep).answered ..

theorem serveReadSweep_event : Event m (serveReadSweep tag body m) := by
  unfold serveReadSweep
  split_ifs
  · exact refuse_event ..
  · exact answer_event ..

theorem serveAcknowledgeAlert_event : Event m (serveAcknowledgeAlert tag body m) := by
  unfold serveAcknowledgeAlert
  split_ifs
  · exact refuse_event ..
  · exact Routine.acknowledge.answered ..
  · exact Routine.acknowledge.answered ..

theorem serveReadAlert_event : Event m (serveReadAlert tag body m) := by
  unfold serveReadAlert
  split
  · exact refuse_event ..
  · exact answer_event ..

theorem serveSetPass_event : Event m (serveSetPass tag body m) := by
  unfold serveSetPass
  split
  · exact refuse_event ..
  · exact Routine.setPass.answered ..

theorem serveClearTamper_event : Event m (serveClearTamper tag body m) := by
  unfold serveClearTamper
  split_ifs with hstate
  · exact refuse_event ..
  · obtain ⟨hempty, hloading⟩ := not_or.mp hstate
    split
    · exact refuse_event ..
    · split
      · exact refuse_event ..
      · next hmember => exact (Routine.clearTamper hempty hloading hmember).answered ..

theorem serveNextBatch_event : Event m (serveNextBatch tag body m) := by
  unfold serveNextBatch
  split_ifs with hstate _ hroom hfresh
  · exact refuse_event ..
  · exact refuse_event ..
  · exact answer_event ..
  · exact answer_event ..
  · exact (Routine.nextBatch (not_not.mp hstate) (not_le.mp hroom) (by simpa using hfresh)).answered ..

theorem serveConfirmBatch_event : Event m (serveConfirmBatch tag body m) := by
  unfold serveConfirmBatch
  split_ifs with hstate
  · exact refuse_event ..
  · split
    · exact refuse_event ..
    · split
      · exact answer_event ..
      · next hbatch => exact (Effect.confirmBatch (not_not.mp hstate) hbatch).answered ..

theorem serveRejectBatch_event : Event m (serveRejectBatch tag body m) := by
  unfold serveRejectBatch
  split_ifs
  · exact refuse_event ..
  · split
    · exact refuse_event ..
    · split
      · exact answer_event ..
      · next hbatch => exact (Routine.returnBatch hbatch).event ((Part.SameBlocks.setShared ..).trans (.answer ..))

theorem serveReadMember_event (p : HostPort) : Event m (serveReadMember p tag body m) := by
  unfold serveReadMember
  split
  · exact refuse_event ..
  · split
    · exact refuse_event ..
    · exact answer_event ..

theorem serveReadStrangers_event (p : HostPort) : Event m (serveReadStrangers p tag body m) := by
  unfold serveReadStrangers
  split
  · exact refuse_event ..
  · exact answer_event ..

theorem serveQueryMembers_event (p : HostPort) : Event m (serveQueryMembers p tag body m) := by
  unfold serveQueryMembers
  split_ifs
  · exact refuse_event ..
  · exact refuse_event ..
  · split
    · exact refuse_event ..
    · split_ifs
      · exact answer_event ..
      · exact (Part.SameBlocks.setScan ..).event

theorem serveClearEvents_event (p : HostPort) : Event m (serveClearEvents p tag body m) := by
  unfold serveClearEvents
  split
  · exact refuse_event ..
  · exact ((Part.SameBlocks.clearEvents ..).trans (.answer ..)).event

theorem serveSetMask_event (p : HostPort) : Event m (serveSetMask p tag body m) := by
  unfold serveSetMask
  split
  · exact refuse_event ..
  · exact ((Part.SameBlocks.onPort ..).trans (.answer ..)).event

theorem serveReadState_event (p : HostPort) : Event m (serveReadState p tag body m) := by
  unfold serveReadState
  split_ifs
  · exact refuse_event ..
  · exact answer_event ..

theorem serve_event (r : Request) (p : HostPort) : Event m (serve r p tag body m) := by
  cases r
  case beginLoad => exact serveBeginLoad_event ..
  case loadStop => exact serveLoadStop_event ..
  case loadMember => exact serveLoadMember_event ..
  case loadProfile => exact serveLoadProfile_event ..
  case loadClass => exact serveLoadClass_event ..
  case finishLoad => exact serveFinishLoad_event ..
  case clearRoute => exact serveClearRoute_event ..
  case beginUpload => exact serveBeginUpload_event ..
  case nextBatch => exact serveNextBatch_event ..
  case confirmBatch => exact serveConfirmBatch_event ..
  case rejectBatch => exact serveRejectBatch_event ..
  case clearTamper => exact serveClearTamper_event ..
  case startRoute => exact serveStartRoute_event ..
  case endRoute => exact serveEndRoute_event ..
  case openStop => exact serveOpenStop_event ..
  case closeStop => exact serveCloseStop_event ..
  case readStop => exact serveReadStop_event ..
  case skipSweep => exact serveSkipSweep_event ..
  case readSweep => exact serveReadSweep_event ..
  case acknowledgeAlert => exact serveAcknowledgeAlert_event ..
  case readAlert => exact serveReadAlert_event ..
  case setPass => exact serveSetPass_event ..
  case readMember => exact serveReadMember_event ..
  case readStrangers => exact serveReadStrangers_event ..
  case queryMembers => exact serveQueryMembers_event ..
  case clearEvents => exact serveClearEvents_event ..
  case setMask => exact serveSetMask_event ..
  case readState => exact serveReadState_event ..

end Requests

/-! Frames and bytes -/

theorem serveRadio_event (f : RxFrame) (m : Part) : Event m (serveRadio f m) := by
  have badCheck : ∀ tag, Event m (m.answerRadio tag .badCheck) := fun _ => (Part.SameBlocks.answerRadio ..).event
  unfold serveRadio
  split
  · exact badCheck _
  · split_ifs
    · exact badCheck _
    · split
      · exact badCheck _
      · unfold Part.receiveTelegram
        split_ifs with hstate hroom
        · exact (Part.SameBlocks.answerRadio ..).event
        · exact (Routine.queueTelegram (not_not.mp hstate) hroom).event (.answerRadio ..)
        · exact ((Part.SameBlocks.setShared ..).trans (.answerRadio ..)).event

theorem serveHost_event (p : HostPort) (f : RxFrame) (m : Part) : Event m (serveHost p f m) := by
  have badFrame : Event m (serveBadFrame p f m) := ((Part.SameBlocks.setLocal ..).trans (.refuse ..)).event
  unfold serveHost
  split
  · exact badFrame
  · split_ifs
    · split
      · exact serve_event ..
      · exact refuse_event ..
    · exact badFrame

theorem judge_event (l : Line) (f : RxFrame) (m : Part) : Event m (judge l f m) := by
  cases l
  case radio => exact serveRadio_event f m
  case cab => exact serveHost_event .cab f m
  case depot => exact serveHost_event .depot f m

theorem arrive_event (l : Line) (f : RxFrame) (m : Part) : Event m (arrive l f m) := by
  obtain ⟨_, h⟩ | ⟨_, h⟩ := arrive_cases l f m
  · exact h ▸ judge_event l f m
  · exact h ▸ (Part.SameBlocks.onLink ..).event

theorem receiveByte_event (l : Line) (m : Part) (b : Byte) : Event m (receiveByte l m b) := by
  unfold receiveByte
  split
  · split
    · exact .same m
    · exact .same m
    · split
      · exact (Part.SameBlocks.startOverrun ..).event
      · unfold collect
        split_ifs
        · exact (Part.SameBlocks.assemble ..).event
        · exact (Part.SameBlocks.assemble ..).event
        · exact (Part.SameBlocks.assemble ..).event
        · exact (Part.SameBlocks.assemble ..).event_of (arrive_event ..)
  · exact .same m

theorem silence_event (l : Line) (m : Part) : Event m (silence l m) := by
  unfold silence
  split_ifs
  · split
    · exact (Part.SameBlocks.assemble ..).event
    · exact (Part.SameBlocks.assemble ..).event_of (arrive_event ..)
    · exact .same m
    · exact (Part.SameBlocks.assemble ..).event_of (arrive_event ..)
  · exact .same m

theorem transmitted_event (l : Line) (m : Part) : Event m (transmitted l m) := by
  unfold transmitted
  split
  · exact .same m
  · next r rest _ =>
    refine (Part.SameBlocks.onLink l (fun k => { k with out := rest, sent := responseBytes r }) m).event_of ?_
    unfold releaseHeld
    split
    · exact .same _
    · split_ifs
      · exact (Part.SameBlocks.onLink ..).event_of (judge_event ..)
      · exact .same _

open Relation in
theorem receiveBytes_events (l : Line) (bytes : List Byte) (m : Part) :
    ReflTransGen Event m (receiveBytes l bytes m) := by
  induction bytes generalizing m with
  | nil => exact .refl
  | cons b rest ih => exact .head (receiveByte_event l m b) (ih (receiveByte l m b))

open Relation in
theorem receiveFrame_events (l : Line) (f : RxFrame) (m : Part) : ReflTransGen Event m (receiveFrame l f m) := by
  cases f
  case byLength => exact receiveBytes_events ..
  case malformed => exact (receiveBytes_events ..).tail (silence_event ..)

/-- A line that is not taken takes no byte (R184, R197 to R199). -/
theorem receiveBytes_unheard {l : Line} {m : Part} (h : m.listening l = false) (bytes : List Byte) :
    receiveBytes l bytes m = m := by
  induction bytes with
  | nil => rfl
  | cons b rest ih =>
    have hb : receiveByte l m b = m := by simp [receiveByte, h]
    rw [receiveBytes, List.foldl_cons, hb]
    exact ih

theorem receiveFrame_unheard {l : Line} {m : Part} (h : m.listening l = false) (f : RxFrame) :
    receiveFrame l f m = m := by
  cases f
  case byLength => exact receiveBytes_unheard h _
  case malformed bytes => simp [receiveFrame, receiveBytes_unheard h, silence, h]

/-- A frame that ends where the line stands between frames, or that the line does not hear, is one event. -/
theorem frameEvent_event {l : Line} {f : RxFrame} {served : Part → Part} {m : Part}
    (hserved : Event m (served m)) (hone : m.listening l = true → m.betweenFrames l = true ∧ f.fits = true) :
    Event m (frameEvent l f served m) := by
  cases hl : m.listening l
  · rw [frameEvent_bytes (by simp [hl]), receiveFrame_unheard hl]
    exact .same m
  · obtain ⟨hbetween, hfits⟩ := hone hl
    unfold frameEvent
    split_ifs
    · exact hserved
    · exact (Part.SameBlocks.onLink ..).event
    · simp_all

open Relation in
theorem frameEvent_events {l : Line} {f : RxFrame} {served : Part → Part} {m : Part}
    (hserved : Event m (served m)) : ReflTransGen Event m (frameEvent l f served m) := by
  unfold frameEvent
  split_ifs
  · exact .single hserved
  · exact .single (Part.SameBlocks.onLink ..).event
  · exact receiveFrame_events ..

/-! The other commands -/

theorem whileAlive_event {f : Part → Part} {m : Part} (h : Event m (f m)) : Event m (whileAlive f m) := by
  unfold whileAlive
  split_ifs
  · exact h
  · exact .same m

theorem expireBatch_event (number : Nat) (m : Part) : Event m (m.expireBatch number) := by
  unfold Part.expireBatch
  split
  · exact .same m
  · next hbatch =>
    split_ifs
    · exact (Routine.returnBatch hbatch).event (.setShared ..)
    · exact .same m

theorem expireLinger_event (i : Fin 4) (m : Part) : Event m (m.expireLinger i) := by
  unfold Part.expireLinger
  split
  · next hstop htimer =>
    obtain ⟨n, hslot, hstop⟩ := Option.bind_eq_some_iff.mp hstop
    split_ifs with hdue
    · exact (Routine.expireLinger hslot hstop htimer hdue).event (.setLocal ..)
    · exact .same m
  · exact .same m

theorem telegramCompletion_event (m : Part) :
    Event m (match m.intake.eval with | none => m | some e => m.completeTelegram e) := by
  split
  · exact .same m
  · next heval => exact (Effect.completeTelegram heval).event (.refl _)

theorem scanReach_event (p : HostPort) (m : Part) :
    Event m (match (m.port p).scan with | none => m | some c => m.reachScan p c) := by
  split
  · exact .same m
  · unfold Part.reachScan
    dsimp only
    split_ifs
    · exact ((Part.SameBlocks.setScan ..).trans (.send ..)).event
    · exact (Part.SameBlocks.setScan ..).event

theorem breakLink_event (m : Part) : Event m m.breakLink := by
  unfold Part.breakLink
  split_ifs
  · exact .same m
  · exact Routine.returnBatches.event (.setShared ..)

theorem resetCab_event (m : Part) : Event m m.resetCab := by
  unfold Part.resetCab
  dsimp only
  split_ifs
  · exact Routine.setPass.event ⟨_, _, _, rfl⟩
  · exact (Part.SameBlocks.onPort ..).event

theorem resetDepot_event (m : Part) : Event m m.resetDepot := by
  unfold Part.resetDepot
  dsimp only
  split_ifs
  · exact ((Part.SameBlocks.onPort ..).trans (.onPort ..)).event_of (breakLink_event _)
  · exact (Part.SameBlocks.onPort ..).event

theorem dock_event (m : Part) : Event m m.dock := by
  unfold Part.dock
  dsimp only
  split_ifs
  · exact Part.SameBlocks.event ⟨_, _, _, rfl⟩
  · exact Part.SameBlocks.event ⟨_, _, _, rfl⟩

theorem undock_event (m : Part) : Event m m.undock := by
  unfold Part.undock
  dsimp only
  split_ifs
  · exact Part.SameBlocks.event_of ⟨_, _, _, rfl⟩ (breakLink_event _)
  · exact Part.SameBlocks.event ⟨_, _, _, rfl⟩

theorem warmRestart_event (m : Part) : Event m m.warmRestart := Routine.warmStart.event ⟨_, _, _, rfl⟩

theorem start_event (s : Start) (m : Part) : Event m (m.start s) := by
  cases s
  case cold => exact Effect.coldStart.event (.refl _)
  case warm => exact warmRestart_event m

theorem powerUp_event (kept : Bool) (m : Part) : Event m (m.powerUp kept) := by
  unfold Part.powerUp
  dsimp only
  split
  · exact Part.SameBlocks.event ⟨_, _, _, rfl⟩
  · exact Part.SameBlocks.event_of ⟨_, _, _, rfl⟩ (start_event ..)

theorem powerLoss_event (m : Part) : Event m m.powerLoss := Routine.clearVolatile.event ⟨_, _, _, rfl⟩

theorem assertReset_event (m : Part) : Event m m.assertReset := by
  unfold Part.assertReset
  dsimp only
  split_ifs
  · split
    · exact Part.SameBlocks.event_of ⟨_, _, _, rfl⟩ (warmRestart_event _)
    · exact Routine.clearVolatile.event ⟨_, _, _, rfl⟩
  · exact Part.SameBlocks.event ⟨_, _, _, rfl⟩

theorem releaseReset_event (m : Part) : Event m m.releaseReset := by
  unfold Part.releaseReset
  dsimp only
  split_ifs
  · split
    · exact Part.SameBlocks.event_of ⟨_, _, _, rfl⟩ (start_event ..)
    · exact Part.SameBlocks.event ⟨_, _, _, rfl⟩
  · exact Part.SameBlocks.event ⟨_, _, _, rfl⟩

/-! Commands and steps -/

/-- A frame command is its frame coming in, for a meaning that is one event. -/
theorem exec_frame {c : Instr} {l : Line} {f : RxFrame} (h : frameOfCommand c = some (l, f)) (s : State) :
    ∃ served : Part → Part, exec c s = act (frameEvent l f served) s ∧ ∀ m, Event m (served m) := by
  cases c <;> cases h
  case telegram | radioUnknownCode => exact ⟨_, rfl, serveRadio_event _⟩
  case badFrame | unknownCode => exact ⟨_, rfl, serveHost_event _ _⟩
  case beginLoad tag body => exact ⟨_, rfl, serveBeginLoad_event tag body⟩
  case loadStop tag body => exact ⟨_, rfl, serveLoadStop_event tag body⟩
  case loadMember tag body => exact ⟨_, rfl, serveLoadMember_event tag body⟩
  case loadProfile tag body => exact ⟨_, rfl, serveLoadProfile_event tag body⟩
  case loadClass tag body => exact ⟨_, rfl, serveLoadClass_event tag body⟩
  case finishLoad tag body => exact ⟨_, rfl, serveFinishLoad_event tag body⟩
  case clearRoute tag body => exact ⟨_, rfl, serveClearRoute_event tag body⟩
  case beginUpload tag body => exact ⟨_, rfl, serveBeginUpload_event tag body⟩
  case nextBatch tag body => exact ⟨_, rfl, serveNextBatch_event tag body⟩
  case confirmBatch tag body => exact ⟨_, rfl, serveConfirmBatch_event tag body⟩
  case rejectBatch tag body => exact ⟨_, rfl, serveRejectBatch_event tag body⟩
  case clearTamper tag body => exact ⟨_, rfl, serveClearTamper_event tag body⟩
  case startRoute tag body => exact ⟨_, rfl, serveStartRoute_event tag body⟩
  case endRoute tag body => exact ⟨_, rfl, serveEndRoute_event tag body⟩
  case openStop tag body => exact ⟨_, rfl, serveOpenStop_event tag body⟩
  case closeStop tag body => exact ⟨_, rfl, serveCloseStop_event tag body⟩
  case readStop tag body => exact ⟨_, rfl, serveReadStop_event tag body⟩
  case skipSweep tag body => exact ⟨_, rfl, serveSkipSweep_event tag body⟩
  case readSweep tag body => exact ⟨_, rfl, serveReadSweep_event tag body⟩
  case acknowledgeAlert tag body => exact ⟨_, rfl, serveAcknowledgeAlert_event tag body⟩
  case readAlert tag body => exact ⟨_, rfl, serveReadAlert_event tag body⟩
  case setPass tag body => exact ⟨_, rfl, serveSetPass_event tag body⟩
  case readMember p tag body => exact ⟨_, rfl, fun m => serveReadMember_event tag body m p⟩
  case readStrangers p tag body => exact ⟨_, rfl, fun m => serveReadStrangers_event tag body m p⟩
  case queryMembers p tag body => exact ⟨_, rfl, fun m => serveQueryMembers_event tag body m p⟩
  case clearEvents p tag body => exact ⟨_, rfl, fun m => serveClearEvents_event tag body m p⟩
  case setMask p tag body => exact ⟨_, rfl, fun m => serveSetMask_event tag body m p⟩
  case readState p tag body => exact ⟨_, rfl, fun m => serveReadState_event tag body m p⟩

/-- A command that is no frame is one event. -/
theorem exec_unframed {c : Instr} (h : frameOfCommand c = none) (s : State) :
    ∃ f : Part → Part, exec c s = act f s ∧ ∀ m, Event m (f m) := by
  cases c <;> cases h
  case telegramCompletion => exact ⟨_, rfl, fun m => whileAlive_event (telegramCompletion_event m)⟩
  case confirmTimerExpiry n => exact ⟨_, rfl, fun m => whileAlive_event (expireBatch_event n m)⟩
  case lingerExpiry i => exact ⟨_, rfl, fun m => whileAlive_event (expireLinger_event i m)⟩
  case scanReach p => exact ⟨_, rfl, fun m => whileAlive_event (scanReach_event p m)⟩
  case receiveSilence l => exact ⟨_, rfl, silence_event l⟩
  case overrun l b => exact ⟨fun m => receiveByte l m b, rfl, fun m => receiveByte_event l m b⟩
  case transmitCompletion l => exact ⟨_, rfl, fun m => whileAlive_event (transmitted_event l m)⟩
  case dockLineRising => exact ⟨_, rfl, dock_event⟩
  case dockLineFalling => exact ⟨_, rfl, undock_event⟩
  case cabPortReset => exact ⟨_, rfl, resetCab_event⟩
  case depotPortReset => exact ⟨_, rfl, resetDepot_event⟩
  case powerUp kept => exact ⟨_, rfl, powerUp_event kept⟩
  case powerLoss => exact ⟨_, rfl, powerLoss_event⟩
  case reset => exact ⟨_, rfl, assertReset_event⟩
  case resetRelease => exact ⟨_, rfl, releaseReset_event⟩
  case endOfSecond => exact ⟨_, rfl, fun m => whileAlive_event (Effect.endSecond.event (.refl _))⟩
  case cabPortResetRelease => exact ⟨_, rfl, fun m => (Part.SameBlocks.onPort _ _ m).event⟩
  case depotPortResetRelease => exact ⟨_, rfl, fun m => (Part.SameBlocks.onPort _ _ m).event⟩

/-- A command that is one event of the part. -/
theorem exec_event {c : Instr} {s t : State} (hone : OneEvent c s.part) (h : exec c s = .next t) :
    Event s.part t.part := by
  cases hc : frameOfCommand c with
  | none =>
    obtain ⟨f, hf, hev⟩ := exec_unframed hc s
    cases hf.symm.trans h
    exact hev s.part
  | some lf =>
    obtain ⟨l, f⟩ := lf
    obtain ⟨served, hs, hev⟩ := exec_frame hc s
    cases hs.symm.trans h
    exact frameEvent_event (hev s.part) (hone l f hc)

open Relation in
/-- Every command is a chain of events. -/
theorem exec_events {c : Instr} {s t : State} (h : exec c s = .next t) : ReflTransGen Event s.part t.part := by
  cases hc : frameOfCommand c with
  | none =>
    obtain ⟨f, hf, hev⟩ := exec_unframed hc s
    cases hf.symm.trans h
    exact .single (hev s.part)
  | some lf =>
    obtain ⟨l, f⟩ := lf
    obtain ⟨served, hs, hev⟩ := exec_frame hc s
    cases hs.symm.trans h
    exact frameEvent_events (hev s.part)

/-- A condition that does not speak of ports, power or choices and that every effect keeps is kept by every step. -/
theorem step_keeps {P : Part → Prop} (hsame : ∀ m n : Part, m.SameBlocks n → P m → P n)
    (heffect : ∀ m n : Part, Effect m n → P m → P n) {s t : State} (h : step s = .next t) (hs : P s.part) :
    P t.part := by
  have hevent : ∀ m n : Part, Event m n → P m → P n := by
    rintro m n ⟨m₀, n₀, hm, he, hn⟩ hp
    exact hsame _ _ hn (heffect _ _ he (hsame _ _ hm hp))
  have hchain : ∀ m n : Part, Relation.ReflTransGen Event m n → P m → P n := by
    intro m n hmn hp
    induction hmn with
    | refl => exact hp
    | tail _ he ih => exact hevent _ _ he ih
  unfold step at h
  split at h
  · cases h
    exact hs
  · exact hchain _ _ (exec_events h) hs

end Sys2Proof.Machine
end

section
/-! SUPPORT. Keyed tables once more: what a write does to the list of entries, and what a change that keeps some field of every
entry leaves as it was. -/

namespace Sys2Proof.Machine

variable {α β : Type}

/-- A write to an absent key adds one entry. -/
theorem Table.put_perm_of_absent {k : Nat} {t : Table α} (h : Table.find t k = none) (v : α) :
    List.Perm (Table.put k v t) ((k, v) :: t) := by
  induction t with
  | nil => exact .refl _
  | cons e t ih =>
    obtain ⟨j, w⟩ := e
    rw [Table.find_cons] at h
    unfold Table.put
    split_ifs with hlt heq
    · exact .refl _
    · simp [heq] at h
    · rw [if_neg (Ne.symm heq)] at h
      exact ((ih h).cons _).trans (.swap ..)

/-- A write to a key that is held replaces its entry where it stands. -/
theorem Table.put_of_present {k : Nat} {t : Table α} {w : α} (hc : Table.Canonical t) (h : Table.find t k = some w)
    (v : α) : ∃ a b, t = a ++ (k, w) :: b ∧ Table.put k v t = a ++ (k, v) :: b := by
  induction t with
  | nil => cases h
  | cons e t ih =>
    obtain ⟨j, x⟩ := e
    rw [Table.find_cons] at h
    unfold Table.put
    by_cases hj : j = k
    · subst hj
      cases (by simpa using h : x = w)
      exact ⟨[], t, rfl, by simp⟩
    · rw [if_neg hj] at h
      have hlt : j < k := hc.head_lt (k, w) (Table.mem_of_find h)
      obtain ⟨a, b, ht, hput⟩ := ih hc.tail h
      refine ⟨(j, x) :: a, b, by simp [ht], ?_⟩
      rw [if_neg (by omega), if_neg (Ne.symm hj), hput]
      rfl

theorem Table.mem_put {k : Nat} {v : α} {t : Table α} {e : Nat × α} (h : e ∈ Table.put k v t) :
    e = (k, v) ∨ e ∈ t := by
  induction t with
  | nil => exact .inl (List.mem_singleton.mp h)
  | cons x t ih =>
    obtain ⟨j, w⟩ := x
    unfold Table.put at h
    split_ifs at h
    · exact List.mem_cons.mp h
    · exact (List.mem_cons.mp h).imp_right (List.mem_cons_of_mem _)
    · obtain rfl | h := List.mem_cons.mp h
      · exact .inr List.mem_cons_self
      · exact (ih h).imp_right (List.mem_cons_of_mem _)

/-- A write of an entry whose field no entry holds keeps that field different in every entry. -/
theorem Table.nodup_put {t : Table α} (hc : Table.Canonical t) (g : α → β) (hnodup : (t.map (fun e => g e.2)).Nodup)
    (k : Nat) {v : α} (hnew : ∀ e ∈ t, g e.2 ≠ g v) : ((Table.put k v t).map (fun e => g e.2)).Nodup := by
  have hfresh : g v ∉ t.map (fun e => g e.2) := by simpa using fun j x hx => hnew (j, x) hx
  cases hfind : Table.find t k with
  | none =>
    rw [((Table.put_perm_of_absent hfind v).map _).nodup_iff]
    exact List.nodup_cons.mpr ⟨hfresh, hnodup⟩
  | some w =>
    obtain ⟨a, b, ht, hput⟩ := Table.put_of_present hc hfind v
    rw [ht] at hnodup hfresh
    rw [hput]
    simp only [List.map_append, List.map_cons, List.nodup_middle, List.nodup_cons, List.mem_append, List.mem_cons,
      not_or] at hnodup hfresh ⊢
    exact ⟨⟨hfresh.1, hfresh.2.2⟩, hnodup.2⟩

/-- A write to a key that is held keeps the number of entries. -/
theorem Table.length_put_of_present {k : Nat} {t : Table α} {w : α} (hc : Table.Canonical t)
    (h : Table.find t k = some w) (v : α) : (Table.put k v t).length = t.length := by
  obtain ⟨a, b, ht, hput⟩ := Table.put_of_present hc h v
  rw [hput, ht]
  simp

/-- A change of one entry that keeps a field keeps that field of every entry. -/
theorem Table.map_modify_of_kept {f : α → α} (g : α → β) (h : ∀ v, g (f v) = g v) (k : Nat) (t : Table α) :
    (Table.modify k f t).map (fun e => (e.1, g e.2)) = t.map (fun e => (e.1, g e.2)) := by
  unfold Table.modify
  rw [List.map_map]
  refine List.map_congr_left fun e _ => ?_
  simp only [Function.comp]
  split_ifs <;> simp [h]

theorem Table.map_mapValues_of_kept {f : α → α} (g : α → β) (h : ∀ v, g (f v) = g v) (t : Table α) :
    (Table.mapValues f t).map (fun e => (e.1, g e.2)) = t.map (fun e => (e.1, g e.2)) := by
  unfold Table.mapValues
  rw [List.map_map]
  exact List.map_congr_left fun e _ => by simp [h]

end Sys2Proof.Machine
end

section
/-! SUPPORT. The directory: what lookup and the free position answer, the places a change leaves as they were, and the members
whose read state a transition leaves. -/

namespace Sys2Proof.Machine

/-! Lookup and the free position (R2, R9) -/

theorem Directory.lookup_eq_some {d : Directory} {k : Key} {p : Nat} {r : Member} (h : d.lookup k = some (p, r)) :
    (p, r) ∈ d.ways ∧ p / 4 = k.number.toNat % 2048 ∧ r.key = k := by
  have hfit := List.find?_some h
  simp only [Bool.and_eq_true, beq_iff_eq] at hfit
  exact ⟨List.mem_of_find?_eq_some h, hfit.1, hfit.2⟩

theorem Directory.lookup_eq_none_iff {d : Directory} {k : Key} :
    d.lookup k = none ↔ ∀ e ∈ d.ways, e.1 / 4 = k.number.toNat % 2048 → e.2.key ≠ k := by
  unfold Directory.lookup
  rw [List.find?_eq_none]
  simp [directorySet, Config.directorySets, Config.ways]

/-- The lowest way of four that is accepted. -/
theorem findWay_eq_some_iff {free : Nat → Bool} {w : Nat} :
    [0, 1, 2, 3].find? free = some w ↔ free w = true ∧ w < 4 ∧ ∀ v < w, free v = false := by
  rw [show [0, 1, 2, 3] = List.range 4 from rfl, List.find?_range_eq_some]
  simp

theorem findWay_eq_none_iff {free : Nat → Bool} :
    [0, 1, 2, 3].find? free = none ↔ ∀ w < 4, free w = false := by
  rw [show [0, 1, 2, 3] = List.range 4 from rfl, List.find?_range_eq_none]
  simp

/-- The free position is the lowest invalid way of the key's set (R9). -/
theorem Directory.freePosition_eq_some_iff {d : Directory} {k : Key} {p : Nat} :
    d.freePosition k = some p ↔ ∃ w < 4, p = k.number.toNat % 2048 * 4 + w ∧ Table.find d.ways p = none ∧
      ∀ v < w, Table.find d.ways (k.number.toNat % 2048 * 4 + v) ≠ none := by
  unfold Directory.freePosition
  rw [List.find?_map, Option.map_eq_some_iff]
  simp only [findWay_eq_some_iff, Function.comp_apply, Option.isNone_iff_eq_none, Option.isNone_eq_false_iff,
    Option.isSome_iff_ne_none, directorySet, Config.directorySets, Config.ways]
  constructor
  · rintro ⟨w, ⟨hfree, hw, hlower⟩, rfl⟩
    exact ⟨w, hw, rfl, hfree, hlower⟩
  · rintro ⟨w, hw, rfl, hfree, hlower⟩
    exact ⟨w, ⟨hfree, hw, hlower⟩, rfl⟩

theorem Directory.freePosition_eq_none_iff {d : Directory} {k : Key} :
    d.freePosition k = none ↔ ∀ w < 4, Table.find d.ways (k.number.toNat % 2048 * 4 + w) ≠ none := by
  unfold Directory.freePosition
  rw [List.find?_map, Option.map_eq_none_iff, findWay_eq_none_iff]
  simp only [Function.comp_apply, Option.isNone_eq_false_iff, Option.isSome_iff_ne_none, directorySet,
    Config.directorySets, Config.ways]

/-- The position a member is given lies in its key's set (R2, R9). -/
theorem Directory.freePosition_set {d : Directory} {k : Key} {p : Nat} (h : d.freePosition k = some p) :
    p / 4 = k.number.toNat % 2048 ∧ Table.find d.ways p = none := by
  obtain ⟨w, hw, rfl, hfree, _⟩ := Directory.freePosition_eq_some_iff.mp h
  exact ⟨by omega, hfree⟩

end Sys2Proof.Machine
end

section
/-! SUPPORT. LOAD MEMBER (R8, R9). -/

namespace Sys2Proof.Machine

/-- A LOAD MEMBER body fits a frame. -/
theorem loadMemberOf_length {body : List Byte} {f : LoadMemberFields} (h : loadMemberOf body = some f) :
    body.length + 2 ≤ 64 := by
  unfold loadMemberOf at h
  split_ifs at h with hlength
  omega

theorem atWidth_eq_ite (w : Width) (c : Word32) :
    atWidth w c = if w = .half then BitVec.ofNat 32 (c.toNat % 65536) else c := by
  cases w <;> rfl

/-- Settles O39: the request is served at once, and its three answers are the cases of lookup and free position. -/
theorem loadMemberAddsAMember : Obligations.LoadMemberAddsAMember := by
  intro tag body f s hready hstate hbody
  have hserved : Becomes (.loadMember tag body) s (serveLoadMember tag body s.part) :=
    act_request_ready (p := .depot) hready (loadMemberOf_length hbody) .loadMember tag (serveLoadMember tag body)
  have becomes : ∀ m, serveLoadMember tag body s.part = m → Becomes (.loadMember tag body) s m :=
    fun m h => h ▸ hserved
  refine ⟨fun hheld => becomes _ ?duplicate, fun hnew => ⟨fun hfull => becomes _ ?setFull,
    fun w hw hfree hlower => becomes _ ?filled⟩⟩
  case duplicate =>
    have hlookup : (s.part.dir.lookup f.key).isSome = true := by
      rw [Option.isSome_iff_ne_none, Ne, Directory.lookup_eq_none_iff]
      obtain ⟨e, he, hset, hkey⟩ := hheld
      exact fun hnone => hnone e he hset hkey
    simp only [serveLoadMember, hstate, hbody, hlookup]
    rfl
  case setFull =>
    have hlookup := Directory.lookup_eq_none_iff.mpr hnew
    have hposition := Directory.freePosition_eq_none_iff.mpr hfull
    simp only [serveLoadMember, hstate, hbody, hlookup, hposition]
    rfl
  case filled =>
    have hlookup := Directory.lookup_eq_none_iff.mpr hnew
    have hposition := Directory.freePosition_eq_some_iff.mpr ⟨w, hw, rfl, hfree, hlower⟩
    simp only [serveLoadMember, hstate, hbody, hlookup, hposition, Directory.fill, Member.loaded, atWidth_eq_ite]
    rfl

end Sys2Proof.Machine
end

section
/-! SUPPORT. The turns a route under way is made of: hearings, closings, alerts and item moves are chains of small changes
to one block each, so that what every turn keeps is kept by all of them. -/

namespace Sys2Proof.Machine

/-! What stands where -/

/-- The key held at each position (R3). -/
def Directory.places (d : Directory) : List (Nat × Key) := d.ways.map (fun e => (e.1, e.2.key))

/-- The route position of each stop number (R24). -/
def Stops.places (u : Stops) : List (Nat × Nat) := u.records.map (fun e => (e.1, e.2.position))

/-- The key held at each position of the stranger table (R130). -/
def Strangers.places (t : Strangers) : List (Nat × Key) := t.entries.map (fun e => (e.1, e.2.key))

theorem Directory.fst_places (d : Directory) : d.places.map Prod.fst = d.ways.map Prod.fst := by
  simp [Directory.places]

theorem Directory.places_modify (d : Directory) (f : Member → Member) (p : Nat) (c : DirCounts)
    (h : ∀ r, (f r).key = r.key := by intro _; rfl) : (Directory.mk (Table.modify p f d.ways) c).places = d.places :=
  Table.map_modify_of_kept Member.key h p d.ways

theorem Directory.places_mapValues (d : Directory) (f : Member → Member) (c : DirCounts)
    (h : ∀ r, (f r).key = r.key) : (Directory.mk (Table.mapValues f d.ways) c).places = d.places :=
  Table.map_mapValues_of_kept Member.key h d.ways

theorem Stops.places_modify (f : Stop → Stop) (n : Nat) (u : Stops) (slots : Vector Slot 4) (order : List Nat)
    (sweep : List SweepEntry) (h : ∀ r, (f r).position = r.position := by intro _; rfl) :
    (Stops.mk (Table.modify n f u.records) slots order sweep).places = u.places :=
  Table.map_modify_of_kept Stop.position h n u.records

theorem Stops.places_mapValues (f : Stop → Stop) (u : Stops) (slots : Vector Slot 4) (order : List Nat)
    (sweep : List SweepEntry) (h : ∀ r, (f r).position = r.position) :
    (Stops.mk (Table.mapValues f u.records) slots order sweep).places = u.places :=
  Table.map_mapValues_of_kept Stop.position h u.records

theorem Strangers.places_modify (f : Stranger → Stranger) (p : Nat) (t : Strangers) (trees : Vector Tree 64) (count : Nat)
    (h : ∀ e, (f e).key = e.key := by intro _; rfl) :
    (Strangers.mk (Table.modify p f t.entries) trees count).places = t.places :=
  Table.map_modify_of_kept Stranger.key h p t.entries

theorem Strangers.places_mapValues (f : Stranger → Stranger) (t : Strangers) (trees : Vector Tree 64) (count : Nat)
    (h : ∀ e, (f e).key = e.key := by intro _; rfl) :
    (Strangers.mk (Table.mapValues f t.entries) trees count).places = t.places :=
  Table.map_mapValues_of_kept Stranger.key h t.entries

theorem Directory.canonical_iff {d : Directory} :
    Table.Canonical d.ways ↔ (d.places.map Prod.fst).Pairwise (· < ·) := by
  rw [Directory.fst_places]

/-- A change of a member that touches its tamper fields alone (R86, R102). -/
def Member.TampersAlone (f : Member → Member) : Prop :=
  ∀ r, ∃ tamper latched watch deferred,
    f r = { r with tamper := tamper, latched := latched, watch := watch, deferred := deferred }

/-- The way at a position holds no READ member. -/
def Part.Unheard (m : Part) (p : Nat) : Prop := ∀ r, Table.find m.dir.ways p = some r → r.readState ≠ .read

/-- One turn: a change of one block that loads and removes nothing, keeps members, stops and strangers in their places, and
a READ member READ with its record. -/
inductive Turn : Part → Part → Prop
  | same {m n : Part} (h : m.SameBlocks n) : Turn m n
  | tamper {m : Part} {u : Tamper} (h : u.classes = m.tamper.classes) : Turn m { m with tamper := u }
  | stops {m : Part} {u : Stops} (h : u.places = m.stops.places) : Turn m { m with stops := u }
  | intake {m : Part} {k : Intake} : Turn m { m with intake := k }
  | items {m : Part} {store : List Record} {upload : Upload} {t : Strangers} (hplaces : t.places = m.strangers.places)
      (hcount : t.count = m.strangers.count) : Turn m { m with store := store, upload := upload, strangers := t }
  | member {m : Part} {p : Nat} {f : Member → Member} (h : Member.TampersAlone f) : Turn m (m.onMember p f)
  | leave {m : Part} {p : Nat} {r : ReadState} (h : m.Unheard p) : Turn m (m.setReadState p r)
  | read {m : Part} {p : Nat} {record : Option Nat} (h : m.Unheard p) :
      Turn m ((m.setReadState p .read).onMember p (fun e => { e with record := record }))
  | giveUp {m : Part} : Turn m { m with dir := m.dir.giveUp }

/-- A chain of turns. -/
abbrev Turns : Part → Part → Prop := Relation.ReflTransGen Turn

/-! What a turn keeps -/

/-- Nothing was loaded or removed, and everything stands where it stood. -/
structure KeepsPlaces (m n : Part) : Prop where
  route : n.route = m.route
  profiles : n.profiles = m.profiles
  classes : n.tamper.classes = m.tamper.classes
  members : n.dir.places = m.dir.places
  stops : n.stops.places = m.stops.places
  strangers : n.strangers.places = m.strangers.places
  count : n.strangers.count = m.strangers.count

theorem KeepsPlaces.trans {m n k : Part} (h : KeepsPlaces m n) (h' : KeepsPlaces n k) : KeepsPlaces m k where
  route := h'.route.trans h.route
  profiles := h'.profiles.trans h.profiles
  classes := h'.classes.trans h.classes
  members := h'.members.trans h.members
  stops := h'.stops.trans h.stops
  strangers := h'.strangers.trans h.strangers
  count := h'.count.trans h.count

/-- Only the directory was changed, and its keys stand where they stood. -/
theorem keepsPlaces_of_dir {m : Part} {d : Directory} (h : d.places = m.dir.places) :
    KeepsPlaces m { m with dir := d } := ⟨rfl, rfl, rfl, h, rfl, rfl, rfl⟩

theorem Member.TampersAlone.key {f : Member → Member} (h : Member.TampersAlone f) (r : Member) :
    (f r).key = r.key := by
  obtain ⟨_, _, _, _, hf⟩ := h r
  rw [hf]

theorem keepsPlaces_onMember {f : Member → Member} (h : ∀ r, (f r).key = r.key) (p : Nat) (m : Part) :
    KeepsPlaces m (m.onMember p f) := keepsPlaces_of_dir (m.dir.places_modify f p m.dir.counts h)

theorem keepsPlaces_setReadState (p : Nat) (r : ReadState) (m : Part) : KeepsPlaces m (m.setReadState p r) := by
  unfold Part.setReadState
  split
  · exact ⟨rfl, rfl, rfl, rfl, rfl, rfl, rfl⟩
  · exact keepsPlaces_of_dir (m.dir.places_modify ..)

theorem Directory.giveUp_places (d : Directory) : d.giveUp.places = d.places :=
  d.places_mapValues _ _ (by intro r; split_ifs <;> rfl)

theorem Turn.keepsPlaces {m n : Part} (h : Turn m n) : KeepsPlaces m n := by
  cases h
  case same h =>
    obtain ⟨_, _, _, rfl⟩ := h
    exact ⟨rfl, rfl, rfl, rfl, rfl, rfl, rfl⟩
  case tamper h => exact ⟨rfl, rfl, h, rfl, rfl, rfl, rfl⟩
  case stops h => exact ⟨rfl, rfl, rfl, rfl, h, rfl, rfl⟩
  case intake => exact ⟨rfl, rfl, rfl, rfl, rfl, rfl, rfl⟩
  case items hplaces hcount => exact ⟨rfl, rfl, rfl, rfl, rfl, hplaces, hcount⟩
  case member h => exact keepsPlaces_onMember h.key ..
  case leave => exact keepsPlaces_setReadState ..
  case read p record _ =>
    exact (keepsPlaces_setReadState p .read m).trans
      (keepsPlaces_onMember (f := fun e => { e with record := record }) (fun _ => rfl) ..)
  case giveUp => exact keepsPlaces_of_dir m.dir.giveUp_places

theorem Turns.keepsPlaces {m n : Part} (h : Turns m n) : KeepsPlaces m n := by
  induction h with
  | refl => exact ⟨rfl, rfl, rfl, rfl, rfl, rfl, rfl⟩
  | tail _ hturn ih => exact ih.trans hturn.keepsPlaces

theorem KeepsPlaces.canonical {m n : Part} (h : KeepsPlaces m n) (hc : Table.Canonical m.dir.ways) :
    Table.Canonical n.dir.ways := by
  rw [Directory.canonical_iff] at hc ⊢
  rwa [h.members]

/-! Read states -/

theorem Part.find_setReadState (m : Part) (p q : Nat) (r : ReadState) :
    Table.find (m.setReadState p r).dir.ways q =
      if q = p then (Table.find m.dir.ways q).map (fun e => { e with readState := r }) else Table.find m.dir.ways q := by
  unfold Part.setReadState
  split
  · next hnone =>
    split_ifs with hq
    · simp [hq, hnone]
    · rfl
  · exact Table.find_modify p (fun e => { e with readState := r }) m.dir.ways q

theorem Part.Unheard.setReadState {m : Part} {q : Nat} (h : m.Unheard q) (p : Nat) {r : ReadState} (hr : r ≠ .read) :
    (m.setReadState p r).Unheard q := by
  intro e he
  rw [Part.find_setReadState] at he
  split_ifs at he
  · obtain ⟨_, _, rfl⟩ := Option.map_eq_some_iff.mp he
    exact hr
  · exact h e he

theorem Part.Unheard.onMember {m : Part} {q : Nat} (h : m.Unheard q) (p : Nat) {f : Member → Member}
    (hf : Member.TampersAlone f) : (m.onMember p f).Unheard q := by
  intro e he
  rw [Part.onMember_ways, Table.find_modify] at he
  split_ifs at he
  · obtain ⟨r, hr, rfl⟩ := Option.map_eq_some_iff.mp he
    obtain ⟨_, _, _, _, hfr⟩ := hf r
    rw [hfr]
    exact h r hr
  · exact h e he

theorem Part.unheard_of_mem {m : Part} (hc : Table.Canonical m.dir.ways) {e : Nat × Member} (he : e ∈ m.dir.ways)
    (hr : e.2.readState ≠ .read) : m.Unheard e.1 := by
  intro r hfind
  rw [hc.find_of_mem he] at hfind
  cases hfind
  exact hr

/-! Orderings keep their elements -/

theorem mem_placeBy {α : Type} {before : α → α → Bool} {x y : α} {l : List α} :
    y ∈ placeBy before x l ↔ y = x ∨ y ∈ l := by
  induction l with
  | nil => simp [placeBy]
  | cons z rest ih =>
    unfold placeBy
    split_ifs
    · simp only [List.mem_cons, ih]
      tauto
    · simp

theorem mem_orderBy {α : Type} {before : α → α → Bool} {y : α} {l : List α} :
    y ∈ orderBy before l ↔ y ∈ l := by
  induction l with
  | nil => rfl
  | cons x rest ih => simp [orderBy, mem_placeBy, ih]

theorem Part.mem_unreadOf {m : Part} {stop : Nat} {e : Nat × Member} :
    e ∈ m.unreadOf stop ↔ e ∈ m.dir.ways ∧ e.2.stop = stop ∧ e.2.readState = .unread := by
  simp only [Part.unreadOf, inKeyOrder, mem_orderBy, Directory.ofStop, List.mem_filter, beq_iff_eq, and_assoc]

/-! The tamper unit -/

theorem offerAlert_turns (a : Alert) (m : Part) : Turns m (m.offerAlert a) := by
  obtain ⟨alerts, stalled, events, heq, _, _⟩ := m.offerAlert_cases a
  rw [heq]
  exact (Relation.ReflTransGen.single (.tamper rfl)).tail (.same (.setShared ..))

@[simp] theorem Part.offerAlert_dir (a : Alert) (m : Part) : (m.offerAlert a).dir = m.dir := by
  obtain ⟨alerts, stalled, events, heq, _, _⟩ := m.offerAlert_cases a
  rw [heq]
  rfl

theorem Member.heard_tampersAlone (u : Tamper) (fired : ClassSet) (stopClosed : Bool) :
    Member.TampersAlone (Member.heard u fired stopClosed) := fun _ => ⟨_, _, _, _, rfl⟩

theorem Member.cleared_tampersAlone (classes : ClassSet) : Member.TampersAlone (Member.cleared classes) :=
  fun _ => ⟨_, _, _, _, rfl⟩

theorem tamperOutcome_turns (p : Nat) (r : Member) (inds : IndicatorSet) (m : Part) :
    Turns m (m.tamperOutcome p r inds).part := by
  have hmember := Relation.ReflTransGen.single
    (Turn.member (m := m) (p := p) (Member.heard_tampersAlone m.tamper (m.tamper.fired inds)
      (m.stopState r.stop == some .closed)))
  unfold Part.tamperOutcome
  dsimp only
  split_ifs
  · exact hmember
  · exact hmember.trans (offerAlert_turns ..)

theorem Part.Unheard.tamperOutcome {m : Part} {q : Nat} (h : m.Unheard q) (p : Nat) (r : Member)
    (inds : IndicatorSet) : (m.tamperOutcome p r inds).part.Unheard q := by
  have hmember := h.onMember p (Member.heard_tampersAlone m.tamper (m.tamper.fired inds)
      (m.stopState r.stop == some .closed))
  unfold Part.tamperOutcome
  dsimp only
  split_ifs
  · exact hmember
  · intro e
    rw [Part.offerAlert_dir]
    exact hmember e

theorem reportDeferred_turns (e : Nat × Member) (m : Part) : Turns m (m.reportDeferred e) :=
  .head (.member fun _ => ⟨_, _, _, _, rfl⟩) (offerAlert_turns ..)

theorem reportEach_turns (l : List (Nat × Member)) (m : Part) : Turns m (l.foldl Part.reportDeferred m) := by
  induction l generalizing m with
  | nil => exact .refl
  | cons e rest ih => exact (reportDeferred_turns e m).trans (ih _)

theorem reportStop_turns (stop : Nat) (m : Part) : Turns m (m.reportStop stop) := reportEach_turns ..

theorem reportAll_turns (m : Part) : Turns m m.reportAll := reportEach_turns ..

/-! The stop unit -/

theorem Stops.onRecord_places {f : Stop → Stop} (h : ∀ r, (f r).position = r.position) (n : Nat) (u : Stops) :
    (u.onRecord n f).places = u.places := Stops.places_modify f n u _ _ _ h

theorem Stops.shut_places (r : Stop) (u : Stops) : (u.shut r).places = u.places := by
  have hrecord := u.onRecord_places (f := fun q => { q with state := .closed, slot := none }) (fun _ => rfl) r.number
  unfold Stops.shut
  cases r.slot <;> exact hrecord

theorem Stops.startLinger_places (r : Stop) (u : Stops) : (u.startLinger r).places = u.places := by
  have hrecord := u.onRecord_places (f := fun q => { q with state := .lingering }) (fun _ => rfl) r.number
  unfold Stops.startLinger
  cases r.slot <;> exact hrecord

theorem Stops.openIn_places (i : Fin 4) (clock : Word32) (n : Nat) (u : Stops) :
    (u.openIn i clock n).places = u.places :=
  u.onRecord_places (f := fun q => { q with state := .opened, slot := some i, openTime := some clock }) (fun _ => rfl) n

theorem Stops.endRoute_places (u : Stops) : u.endRoute.places = u.places :=
  Stops.places_mapValues _ u _ _ _ (by intro r; split_ifs <;> rfl)

/-- One member of a close leaves UNREAD: a chain of turns after which every way that held no READ member holds none. -/
structure Disposes (g : Closing → Nat × Member → Closing) : Prop where
  turns : ∀ c e, c.part.Unheard e.1 → Turns c.part (g c e).part
  unheard : ∀ c e p, c.part.Unheard p → (g c e).part.Unheard p

theorem dropMember_disposes : Disposes dropMember where
  turns _ _ h := .single (.leave h)
  unheard _ _ _ h := h.setReadState _ (by decide)

theorem carryMember_disposes : Disposes carryMember where
  turns c e h := by
    unfold carryMember
    split_ifs
    · exact (Relation.ReflTransGen.single (.leave h)).tail (.stops rfl)
    · exact .single (.leave h)
  unheard c e p h := by
    unfold carryMember
    split_ifs
    · exact h.setReadState e.1 (r := .carried) (by decide)
    · exact h.setReadState e.1 (r := .missed) (by decide)

theorem Disposes.foldl {g : Closing → Nat × Member → Closing} (hg : Disposes g) {l : List (Nat × Member)} {c : Closing}
    (h : ∀ e ∈ l, c.part.Unheard e.1) : Turns c.part (l.foldl g c).part := by
  induction l generalizing c with
  | nil => exact .refl
  | cons e rest ih =>
    have hhead := hg.turns c e (h e List.mem_cons_self)
    exact hhead.trans (ih fun x hx => hg.unheard c e x.1 (h x (List.mem_cons_of_mem _ hx)))

theorem disposeMembers_turns {m : Part} (hc : Table.Canonical m.dir.ways) (stop : Nat) (drop : Bool) :
    Turns m (m.disposeMembers stop drop).part := by
  have hunheard : ∀ e ∈ m.unreadOf stop, (⟨m, 0, 0⟩ : Closing).part.Unheard e.1 := by
    intro e he
    obtain ⟨hmem, _, hunread⟩ := Part.mem_unreadOf.mp he
    exact Part.unheard_of_mem hc hmem (by simp [hunread])
  have hcarry := carryMember_disposes.foldl hunheard
  unfold Part.disposeMembers
  dsimp only
  split_ifs
  · exact dropMember_disposes.foldl hunheard
  · exact hcarry
  · exact hcarry.tail (.same (.setShared ..))

theorem closeStop_turns {m : Part} (hc : Table.Canonical m.dir.ways) (r : Stop) (drop : Bool) :
    Turns m (m.closeStop r drop).part :=
  ((disposeMembers_turns hc r.number drop).tail (.stops (Stops.shut_places ..))).trans (reportStop_turns ..)

theorem closeEach_turns {m : Part} (hc : Table.Canonical m.dir.ways) (l : List Stop) :
    Turns m (l.foldl (fun m r => (m.closeStop r false).part) m) := by
  induction l generalizing m with
  | nil => exact .refl
  | cons r rest ih =>
    have hclose := closeStop_turns hc r false
    exact hclose.trans (ih (hclose.keepsPlaces.canonical hc))

theorem closeLingering_turns {m : Part} (hc : Table.Canonical m.dir.ways) : Turns m m.closeLingering :=
  closeEach_turns hc _

theorem clearVolatile_turns (m : Part) : Turns m m.clearVolatile :=
  ((Relation.ReflTransGen.single (Turn.same (n := m.clearPorts) ⟨_, _, _, rfl⟩)).tail
    (.intake (k := ⟨[], none⟩))).tail (.tamper (u := { m.tamper with pass := false }) rfl)

theorem endRoute_turns (m : Part) : Turns m m.endRoute :=
  (((Relation.ReflTransGen.single (.intake (k := m.intake.void))).tail (.stops m.stops.endRoute_places)).tail
    (.giveUp (m := { m with intake := m.intake.void, stops := m.stops.endRoute }))).trans (reportAll_turns _)

/-! The upload engine -/

/-- The parts differ in upload bookkeeping alone: the reading records one for one, the order, the strangers' upload states (R162). -/
def ItemsTouched (m n : Part) : Prop :=
  ∃ (store : List Record) (upload : Upload) (t : Strangers),
    n = { m with store := store, upload := upload, strangers := t } ∧
    store.length = m.store.length ∧ t.places = m.strangers.places ∧ t.count = m.strangers.count

theorem ItemsTouched.trans {m n k : Part} : ItemsTouched m n → ItemsTouched n k → ItemsTouched m k := by
  rintro ⟨_, _, _, rfl, hlength, hplaces, hcount⟩ ⟨_, _, _, rfl, hlength', hplaces', hcount'⟩
  exact ⟨_, _, _, rfl, hlength'.trans hlength, hplaces'.trans hplaces, hcount'.trans hcount⟩

theorem ItemsTouched.turns {m n : Part} : ItemsTouched m n → Turns m n := by
  rintro ⟨_, _, _, rfl, _, hplaces, hcount⟩
  exact .single (.items hplaces hcount)

theorem setItem_touches (s : UploadState) (batch : Option Nat) (m : Part) (n : Nat) :
    ItemsTouched m (m.setItem s batch n) := by
  unfold Part.setItem
  split
  · exact ⟨m.store, m.upload, m.strangers, rfl, rfl, rfl, rfl⟩
  · exact ⟨_, m.upload, m.strangers, rfl, List.length_modify .., rfl, rfl⟩
  · exact ⟨m.store, _, m.strangers, rfl, rfl, rfl, rfl⟩
  · exact ⟨m.store, m.upload, _, rfl, rfl, Strangers.places_modify .., rfl⟩

theorem setItems_touches (s : UploadState) (batch : Option Nat) (numbers : List Nat) (m : Part) :
    ItemsTouched m (m.setItems s batch numbers) := by
  unfold Part.setItems
  induction numbers generalizing m with
  | nil => exact ⟨m.store, m.upload, m.strangers, rfl, rfl, rfl, rfl⟩
  | cons n rest ih => exact (setItem_touches s batch m n).trans (ih _)

theorem retire_touches (number : Nat) (m : Part) : ItemsTouched m (m.retire number) :=
  ⟨m.store, _, m.strangers, rfl, rfl, rfl, rfl⟩

theorem returnBatch_touches (b : Batch) (m : Part) : ItemsTouched m (m.returnBatch b) :=
  (setItems_touches ..).trans (retire_touches ..)

theorem formBatch_turns (number : Nat) (numbers : List Nat) (m : Part) : Turns m (m.formBatch number numbers) :=
  (setItems_touches ..).turns.tail (.items rfl rfl)

theorem returnBatch_turns (b : Batch) (m : Part) : Turns m (m.returnBatch b) :=
  (returnBatch_touches b m).turns

theorem confirmItems_turns (b : Batch) (m : Part) : Turns m (m.confirmItems b) :=
  ((setItems_touches ..).trans (retire_touches ..)).turns

theorem returnEach_turns (l : List Batch) (m : Part) : Turns m (l.foldl (fun m b => m.returnBatch b) m) := by
  induction l generalizing m with
  | nil => exact .refl
  | cons b rest ih => exact (returnBatch_turns b m).trans (ih _)

theorem returnBatches_turns (m : Part) : Turns m m.returnBatches := returnEach_turns ..

theorem formOrder_turns (m : Part) : Turns m m.formOrder :=
  .single (.items (Strangers.places_mapValues ..) rfl)

/-! Hearings -/

theorem firstHearing_turns {m : Part} {p : Nat} (h : m.Unheard p) (r : Member) (q : Queued) :
    Turns m (m.firstHearing p r q) := by
  unfold Part.firstHearing
  dsimp only
  refine ((((tamperOutcome_turns p r _ m).tail (.items rfl rfl)).tail (.read ?_)).tail (.stops (Stops.places_modify ..)))
  exact h.tamperOutcome p r _

theorem laterHearing_turns (p : Nat) (r : Member) (index : Nat) (e : Record) (q : Queued) (m : Part) :
    Turns m (m.laterHearing p r index e q) := (tamperOutcome_turns ..).tail (.items (t := _) rfl rfl)

/-- An accepted telegram is a member's, a chain of turns, or a stranger's (R48). -/
theorem hear_cases {m : Part} (hc : Table.Canonical m.dir.ways) (q : Queued) :
    Turns m (m.hear q) ∨ (m.dir.lookup q.telegram.key = none ∧ m.hear q = m.hearStranger q m.stops.lead) := by
  unfold Part.hear
  split
  · next hnone => exact .inr ⟨hnone, rfl⟩
  · next p r hsome =>
    left
    split_ifs with hread
    · split
      · exact .refl
      · split
        · exact .refl
        · exact laterHearing_turns ..
    · exact firstHearing_turns (Part.unheard_of_mem hc (Directory.lookup_eq_some hsome).1 hread) ..

/-- A completed telegram is dropped or heard as a member's, a chain of turns, or it goes to the stranger table (R48). -/
theorem completeTelegram_cases {m : Part} (hc : Table.Canonical m.dir.ways) (e : Evaluation) :
    Turns m (m.completeTelegram e) ∨
    (m.route.state = .running ∧ m.dir.lookup e.queued.telegram.key = none ∧ ∃ k k' : Intake,
      m.completeTelegram e = { Part.hearStranger e.queued m.stops.lead { m with intake := k } with intake := k' }) := by
  have hfree : Turns m { m with intake := { m.intake with eval := none } } := .single .intake
  unfold Part.completeTelegram
  dsimp only
  split_ifs with hdropped
  · exact .inl (hfree.tail .intake)
  · obtain ⟨_, hrunning⟩ := not_or.mp hdropped
    obtain hturns | ⟨hnone, hstranger⟩ :=
      hear_cases (m := { m with intake := { m.intake with eval := none } }) hc e.queued
    · exact .inl ((hfree.trans hturns).tail .intake)
    · rw [hstranger]
      exact .inr ⟨not_not.mp hrunning, hnone, _, _, rfl⟩

/-- The routine of a route under way is a chain of turns. -/
theorem Routine.turns {m n : Part} (hc : Table.Canonical m.dir.ways) (h : Routine m n) : Turns m n := by
  cases h
  case none => exact .refl
  case openStop => exact .single (.stops (Stops.openIn_places ..))
  case startLinger => exact .single (.stops (Stops.startLinger_places ..))
  case closeStop => exact closeStop_turns hc ..
  case expireLinger => exact closeStop_turns hc ..
  case acknowledge => exact .single (.tamper rfl)
  case setPass => exact .single (.tamper rfl)
  case clearTamper => exact .single (.member (Member.cleared_tampersAlone _))
  case nextBatch => exact formBatch_turns ..
  case returnBatch => exact returnBatch_turns ..
  case returnBatches => exact returnBatches_turns m
  case queueTelegram => exact .single .intake
  case warmStart =>
    have hvolatile := clearVolatile_turns m
    exact (hvolatile.trans (closeLingering_turns (hvolatile.keepsPlaces.canonical hc))).trans (returnBatches_turns _)
  case clearVolatile => exact clearVolatile_turns m

/-- The member at the head of the sweep list is given up where its key is found (R122). -/
theorem skipHead_cases (e : SweepEntry) (rest : List SweepEntry) (m : Part) :
    (m.dir.lookup e.key = none ∧ m.skipHead e rest = m.onStops (fun u => { u with sweep := rest })) ∨
    ∃ p r, m.dir.lookup e.key = some (p, r) ∧
      m.skipHead e rest = (m.onStops (fun u => { u with sweep := rest })).setReadState p .missed := by
  unfold Part.skipHead
  dsimp only
  split
  · next hnone => exact .inl ⟨hnone, rfl⟩
  · next p r hsome => exact .inr ⟨p, r, hsome, rfl⟩

/-- A member given up, and the list's next head: nothing is loaded or removed. -/
theorem skipHead_keepsPlaces (e : SweepEntry) (rest : List SweepEntry) (m : Part) :
    KeepsPlaces m (m.skipHead e rest) := by
  have hstops : KeepsPlaces m (m.onStops (fun u => { u with sweep := rest })) := ⟨rfl, rfl, rfl, rfl, rfl, rfl, rfl⟩
  obtain ⟨_, h⟩ | ⟨p, r, _, h⟩ := skipHead_cases e rest m <;> rw [h]
  · exact hstops
  · exact hstops.trans (keepsPlaces_setReadState ..)

/-- Confirming the last items moves the route to DONE (R36, R168). -/
theorem finishUpload_cases (m : Part) : m.finishUpload = m ∨ m.finishUpload = m.moveRoute .done := by
  unfold Part.finishUpload
  split_ifs
  · exact .inr rfl
  · exact .inl rfl

theorem hearStranger_dir (q : Queued) (lead : Option Nat) (m : Part) : (m.hearStranger q lead).dir = m.dir := by
  obtain ⟨t, events, h⟩ := m.hearStranger_cases q lead
  rw [h]
  rfl

/-- All an effect can do to the places of the members: nothing, empty them, or load one member (R8, R195, R38). -/
theorem Effect.members_cases {m n : Part} (hc : Table.Canonical m.dir.ways) (h : Effect m n) :
    n.dir.places = m.dir.places ∨ n.dir.ways = [] ∨ ∃ (r : Member) (p : Nat), m.dir.lookup r.key = none ∧
      m.dir.freePosition r.key = some p ∧ n.dir = m.dir.fill p r := by
  cases h
  case routine h => exact .inl (h.turns hc).keepsPlaces.members
  case beginLoad | loadStop | loadProfile | loadClass | finishLoad | startRoute | endSecond => exact .inl rfl
  case loadMember hnew hfree => exact .inr (.inr ⟨.loaded .., _, hnew, hfree, rfl⟩)
  case clearRoute | coldStart => exact .inr (.inl rfl)
  case beginUpload => exact .inl (formOrder_turns m).keepsPlaces.members
  case endRoute => exact .inl (endRoute_turns m).keepsPlaces.members
  case skipSweep => exact .inl (skipHead_keepsPlaces ..).members
  case confirmBatch b _ _ =>
    have hitems := (confirmItems_turns b m).keepsPlaces.members
    obtain h | h := finishUpload_cases (m.confirmItems b) <;> rw [h] <;> exact .inl hitems
  case completeTelegram e _ =>
    obtain h | ⟨_, _, k, k', h⟩ := completeTelegram_cases hc e
    · exact .inl h.keepsPlaces.members
    · rw [h, hearStranger_dir]
      exact .inl rfl

/-- Every effect keeps the directory's positions in rising order. -/
theorem Effect.canonical {m n : Part} (h : Effect m n) (hc : Table.Canonical m.dir.ways) :
    Table.Canonical n.dir.ways := by
  obtain h | h | ⟨r, p, _, _, h⟩ := h.members_cases hc
  · rw [Directory.canonical_iff] at hc ⊢
    rwa [h]
  · rw [h]
    exact Table.canonical_nil
  · rw [h]
    exact hc.put p r

end Sys2Proof.Machine
end

section
/-! SUPPORT. The directory's five counts (R17): every change of the directory moves them as it moves the members. -/

namespace Sys2Proof.Machine

/-- The count of one read state. -/
def DirCounts.of (c : DirCounts) : ReadState → Nat
  | .unread => c.unread
  | .read => c.read
  | .carried => c.carried
  | .missed => c.missed

theorem DirCounts.raise_of (c : DirCounts) (r q : ReadState) :
    (c.raise r).of q = c.of q + if q = r then 1 else 0 := by
  cases r <;> cases q <;> rfl

theorem DirCounts.lower_of (c : DirCounts) (r q : ReadState) :
    (c.lower r).of q = c.of q - if q = r then 1 else 0 := by
  cases r <;> cases q <;> rfl

@[simp] theorem DirCounts.raise_valid (c : DirCounts) (r : ReadState) : (c.raise r).valid = c.valid := by
  cases r <;> rfl

@[simp] theorem DirCounts.lower_valid (c : DirCounts) (r : ReadState) : (c.lower r).valid = c.valid := by
  cases r <;> rfl

/-- The five counts are the numbers of the members (R17). -/
def Directory.Counted (d : Directory) : Prop :=
  d.counts.valid = d.ways.length ∧ ∀ q, d.counts.of q = d.inState q

theorem Part.countsTrue_iff {m : Part} : m.CountsTrue ↔ Table.Canonical m.dir.ways ∧ m.dir.Counted := by
  refine and_congr_right fun _ => ⟨fun h => ?_, fun ⟨hvalid, hof⟩ => ?_⟩
  · rw [Directory.Counted, h]
    exact ⟨rfl, fun q => by cases q <;> rfl⟩
  · rw [← hvalid, ← hof .unread, ← hof .read, ← hof .carried, ← hof .missed]
    rfl

/-- A change of a member's read state moves one member from the state it had to the state it gets. -/
theorem Table.countP_modify_readState {t : Table Member} (hc : Table.Canonical t) {p : Nat} {old : Member}
    (h : Table.find t p = some old) (r : ReadState) :
    ∃ others : ReadState → Nat, ∀ q,
      List.countP (fun e => e.2.readState == q) t = others q + (if q = old.readState then 1 else 0) ∧
      List.countP (fun e => e.2.readState == q) (Table.modify p (fun e => { e with readState := r }) t) =
        others q + if q = r then 1 else 0 := by
  obtain ⟨a, b, ht, -⟩ := Table.put_of_present hc h old
  have hkeys : ∀ e ∈ a ++ b, e.1 ≠ p := by
    have hnodup : (t.map Prod.fst).Nodup := hc.imp Nat.ne_of_lt
    rw [ht] at hnodup
    simp only [List.map_append, List.map_cons] at hnodup
    have hp := (List.nodup_middle.mp hnodup).notMem
    intro e he hep
    exact hp (by rw [← List.map_append]; exact hep ▸ List.mem_map_of_mem he)
  have hrest : ∀ l : Table Member, (∀ e ∈ l, e.1 ≠ p) →
      Table.modify p (fun e => { e with readState := r }) l = l := by
    intro l hl
    exact (List.map_congr_left fun e he => if_neg (hl e he)).trans (List.map_id l)
  refine ⟨fun q => List.countP (fun e => e.2.readState == q) a + List.countP (fun e => e.2.readState == q) b,
    fun q => ?_⟩
  have hmod : Table.modify p (fun e => { e with readState := r }) t = a ++ (p, { old with readState := r }) :: b := by
    rw [ht]
    have ha := hrest a fun e he => hkeys e (List.mem_append_left b he)
    have hb := hrest b fun e he => hkeys e (List.mem_append_right a he)
    unfold Table.modify at ha hb ⊢
    simp [ha, hb]
  rw [hmod, ht]
  simp only [List.countP_append, List.countP_cons, beq_iff_eq, eq_comm (a := q)]
  omega

/-- The numbers of the members depend on their read states alone. -/
theorem Table.countP_modify_of_kept {f : Member → Member} (h : ∀ r, (f r).readState = r.readState) (p : Nat)
    (t : Table Member) (q : ReadState) :
    List.countP (fun e => e.2.readState == q) (Table.modify p f t) = List.countP (fun e => e.2.readState == q) t := by
  have hstates := congrArg (List.countP fun x => x.2 == q) (Table.map_modify_of_kept Member.readState h p t)
  rwa [List.countP_map, List.countP_map] at hstates

theorem Directory.Counted.modify {d : Directory} (hd : d.Counted) {f : Member → Member}
    (h : ∀ r, (f r).readState = r.readState) (p : Nat) : (Directory.mk (Table.modify p f d.ways) d.counts).Counted := by
  obtain ⟨hvalid, hof⟩ := hd
  exact ⟨hvalid.trans (List.length_map ..).symm, fun q => (hof q).trans (Table.countP_modify_of_kept h p d.ways q).symm⟩

theorem Part.counted_setReadState {m : Part} (hc : Table.Canonical m.dir.ways) (hd : m.dir.Counted) (p : Nat)
    (r : ReadState) : (m.setReadState p r).dir.Counted := by
  unfold Part.setReadState
  split
  · exact hd
  · next old hfind =>
    obtain ⟨others, hothers⟩ := Table.countP_modify_readState hc hfind r
    refine ⟨?_, fun q => ?_⟩
    · simpa [Table.modify] using hd.1
    · obtain ⟨hbefore, hafter⟩ := hothers q
      have hq := hd.2 q
      unfold Directory.inState at hq ⊢
      rw [DirCounts.raise_of, DirCounts.lower_of, hafter, hq, hbefore]
      omega

/-- END ROUTE moves every UNREAD and CARRIED member to MISSED, and READ members stay (R12). -/
theorem Table.countP_giveUp (t : Table Member) (q : ReadState) :
    List.countP (fun e => e.2.readState == q)
        (Table.mapValues (fun e => if e.readState = .read then e else { e with readState := .missed }) t) =
      match q with
      | .unread => 0
      | .read => List.countP (fun e => e.2.readState == .read) t
      | .carried => 0
      | .missed => List.countP (fun e => e.2.readState == .missed) t +
          List.countP (fun e => e.2.readState == .unread) t + List.countP (fun e => e.2.readState == .carried) t := by
  unfold Table.mapValues
  induction t with
  | nil => cases q <;> rfl
  | cons e t ih =>
    rw [List.map_cons, List.countP_cons, ih]
    cases hr : e.2.readState <;> cases q <;> simp [hr] <;> omega

theorem Directory.Counted.giveUp {d : Directory} (hd : d.Counted) : d.giveUp.Counted := by
  obtain ⟨hvalid, hof⟩ := hd
  refine ⟨hvalid.trans (List.length_map ..).symm, fun q => ?_⟩
  have hcount := Table.countP_giveUp d.ways q
  have hq := hof q
  have hunread := hof .unread
  have hcarried := hof .carried
  unfold Directory.inState at hq hunread hcarried ⊢
  unfold Directory.giveUp
  rw [hcount]
  cases q
  case unread => rfl
  case read => exact hq
  case carried => rfl
  case missed => exact congrArg₂ (· + ·) (congrArg₂ (· + ·) hq hunread) hcarried

/-- A member placed in an invalid way is one more valid and one more UNREAD member (R9, R17). -/
theorem Directory.Counted.fill {d : Directory} (hd : d.Counted) {p : Nat} (hfree : Table.find d.ways p = none)
    {r : Member} (hr : r.readState = .unread) : (d.fill p r).Counted := by
  obtain ⟨hvalid, hof⟩ := hd
  have hperm := Table.put_perm_of_absent hfree r
  refine ⟨?_, fun q => ?_⟩
  · have hlength := hperm.length_eq
    simp only [Directory.fill, hlength, hvalid, List.length_cons]
  · have hcount := hperm.countP_eq (fun e => e.2.readState == q)
    have hq := hof q
    unfold Directory.inState at hq ⊢
    unfold Directory.fill
    rw [hcount, List.countP_cons, hr]
    cases q <;> simp [DirCounts.of] at hq ⊢ <;> exact hq

/-- A turn moves the counts as it moves the members. -/
theorem Turn.counted {m n : Part} (hc : Table.Canonical m.dir.ways) (hd : m.dir.Counted) (h : Turn m n) :
    n.dir.Counted := by
  cases h
  case same h =>
    obtain ⟨_, _, _, rfl⟩ := h
    exact hd
  case tamper => exact hd
  case stops => exact hd
  case intake => exact hd
  case items => exact hd
  case member p f hf =>
    refine hd.modify (fun r => ?_) p
    obtain ⟨_, _, _, _, heq⟩ := hf r
    rw [heq]
  case leave => exact Part.counted_setReadState hc hd ..
  case read p record _ =>
    exact (Part.counted_setReadState hc hd p .read).modify (f := fun e => { e with record := record }) (fun _ => rfl) p
  case giveUp => exact hd.giveUp

theorem Turns.countsTrue {m n : Part} (h : Turns m n) (hm : m.CountsTrue) : n.CountsTrue := by
  rw [Part.countsTrue_iff] at hm ⊢
  induction h with
  | refl => exact hm
  | tail _ hturn ih => exact ⟨hturn.keepsPlaces.canonical ih.1, hturn.counted ih.1 ih.2⟩

theorem skipHead_countsTrue {m : Part} (hm : m.CountsTrue) (e : SweepEntry) (rest : List SweepEntry) :
    (m.skipHead e rest).CountsTrue := by
  obtain ⟨_, h⟩ | ⟨p, r, _, h⟩ := skipHead_cases e rest m <;> rw [h]
  · exact hm
  · rw [Part.countsTrue_iff] at hm ⊢
    obtain ⟨hc, hd⟩ := hm
    exact ⟨(keepsPlaces_setReadState ..).canonical hc, Part.counted_setReadState (m := m.onStops _) hc hd ..⟩

/-- Every effect keeps the counts true. -/
theorem Effect.countsTrue {m n : Part} (h : Effect m n) (hm : m.CountsTrue) : n.CountsTrue := by
  cases h
  case routine h => exact (h.turns hm.1).countsTrue hm
  case beginLoad | loadStop | loadProfile | loadClass | finishLoad | startRoute | endSecond => exact hm
  case loadMember hfree =>
    obtain ⟨hc, hd⟩ := Part.countsTrue_iff.mp hm
    exact Part.countsTrue_iff.mpr ⟨hc.put .., hd.fill (Directory.freePosition_set hfree).2 rfl⟩
  case clearRoute | coldStart => exact ⟨Table.canonical_nil, rfl⟩
  case beginUpload => exact (formOrder_turns m).countsTrue hm
  case endRoute => exact (endRoute_turns m).countsTrue hm
  case skipSweep => exact skipHead_countsTrue hm ..
  case confirmBatch b _ _ =>
    have hitems := (confirmItems_turns b m).countsTrue hm
    obtain h | h := finishUpload_cases (m.confirmItems b) <;> rw [h] <;> exact hitems
  case completeTelegram e _ =>
    obtain h | ⟨_, _, k, k', h⟩ := completeTelegram_cases hm.1 e
    · exact h.countsTrue hm
    · rw [h, Part.CountsTrue, hearStranger_dir]
      exact hm

theorem countsTrue_of_sameBlocks {m n : Part} (h : m.SameBlocks n) (hm : m.CountsTrue) : n.CountsTrue := by
  obtain ⟨_, _, _, rfl⟩ := h
  exact hm

/-- Every step keeps the directory's counts true (R17). -/
theorem step_countsTrue {s t : State} (hs : s.part.CountsTrue) (h : step s = .next t) : t.part.CountsTrue :=
  step_keeps (fun _ _ => countsTrue_of_sameBlocks) (fun _ _ => Effect.countsTrue) h hs

end Sys2Proof.Machine
end

section
/-! SUPPORT. Members and strangers in their keys' sets (R2, R3, R8, R130, R132): conditions on what stands where. -/

namespace Sys2Proof.Machine

/-! The directory -/

theorem Part.keysTrue_iff {m : Part} :
    m.KeysTrue ↔ (m.dir.places.map Prod.fst).Pairwise (· < ·) ∧
      (∀ x ∈ m.dir.places, x.1 / 4 = x.2.number.toNat % 2048) ∧ (m.dir.places.map Prod.snd).Nodup := by
  simp only [Part.KeysTrue, Table.Canonical, Directory.places, List.map_map, Function.comp_def, List.forall_mem_map]

theorem KeepsPlaces.keysTrue {m n : Part} (h : KeepsPlaces m n) (hm : m.KeysTrue) : n.KeysTrue := by
  rw [Part.keysTrue_iff, h.members]
  exact Part.keysTrue_iff.mp hm

/-- A key that a lookup does not find is no member's (R2). -/
theorem Part.KeysTrue.ne_of_lookup {m : Part} (hm : m.KeysTrue) {k : Key} (h : m.dir.lookup k = none) :
    ∀ e ∈ m.dir.ways, e.2.key ≠ k := by
  rintro e he rfl
  exact Directory.lookup_eq_none_iff.mp h e he (hm.2.1 e he) rfl

/-- A member loaded into the free position of its key's set (R8, R9). -/
theorem Part.KeysTrue.fill {m : Part} (hm : m.KeysTrue) {r : Member} {p : Nat} (hnew : m.dir.lookup r.key = none)
    (hfree : m.dir.freePosition r.key = some p) : Part.KeysTrue { m with dir := m.dir.fill p r } := by
  have hne := hm.ne_of_lookup hnew
  obtain ⟨hc, hsets, hnodup⟩ := hm
  refine ⟨hc.put .., fun e he => ?_, Table.nodup_put hc Member.key hnodup p hne⟩
  obtain rfl | he := Table.mem_put he
  · exact (Directory.freePosition_set hfree).1
  · exact hsets e he

/-- Every effect keeps the members in their keys' sets, no key twice. -/
theorem Effect.keysTrue {m n : Part} (h : Effect m n) (hm : m.KeysTrue) : n.KeysTrue := by
  obtain h | h | ⟨r, p, hnew, hfree, h⟩ := h.members_cases hm.1
  · rw [Part.keysTrue_iff, h]
    exact Part.keysTrue_iff.mp hm
  · rw [Part.KeysTrue, h]
    exact ⟨Table.canonical_nil, by rintro _ ⟨⟩, List.nodup_nil⟩
  · rw [Part.KeysTrue, h]
    exact hm.fill hnew hfree

theorem keysTrue_of_sameBlocks {m n : Part} (h : m.SameBlocks n) (hm : m.KeysTrue) : n.KeysTrue := by
  obtain ⟨_, _, _, rfl⟩ := h
  exact hm

/-! The stranger table -/

/-- Every stranger stands in its key's set (R130), no key is held twice, and the valid count is the number of entries
(R141). -/
structure Strangers.Sound (t : Strangers) : Prop where
  canonical : Table.Canonical t.entries
  sets : ∀ e ∈ t.entries, e.1 / 4 = e.2.key.number.toNat % 64
  nodup : (t.entries.map (fun e => e.2.key)).Nodup
  count : t.count = t.entries.length

theorem Strangers.sound_iff {t : Strangers} :
    t.Sound ↔ (t.places.map Prod.fst).Pairwise (· < ·) ∧ (∀ x ∈ t.places, x.1 / 4 = x.2.number.toNat % 64) ∧
      (t.places.map Prod.snd).Nodup ∧ t.count = t.places.length := by
  simp only [Strangers.places, List.map_map, Function.comp_def, List.forall_mem_map, List.length_map]
  exact ⟨fun ⟨hc, hsets, hnodup, hcount⟩ => ⟨hc, hsets, hnodup, hcount⟩,
    fun ⟨hc, hsets, hnodup, hcount⟩ => ⟨hc, hsets, hnodup, hcount⟩⟩

theorem Strangers.Sound.of_places {t u : Strangers} (ht : t.Sound) (hplaces : u.places = t.places)
    (hcount : u.count = t.count) : u.Sound := by
  rw [Strangers.sound_iff, hplaces, hcount]
  exact Strangers.sound_iff.mp ht

theorem Strangers.lookup_eq_none_iff {t : Strangers} {k : Key} :
    t.lookup k = none ↔ ∀ e ∈ t.entries, e.1 / 4 = k.number.toNat % 64 → e.2.key ≠ k := by
  unfold Strangers.lookup
  rw [List.find?_eq_none]
  simp [strangerSet, Config.strangerSets, Config.ways]

/-- A refresh leaves every key where it stands (R134). -/
theorem Strangers.refresh_places (t : Strangers) (p : Nat) (q : Queued) : (t.refresh p q).places = t.places := by
  unfold Strangers.refresh Strangers.touch
  dsimp only
  exact Strangers.places_modify ..

/-- An entry written into a way of its key's set, its key held by no entry. -/
theorem Strangers.Sound.put {t : Strangers} (ht : t.Sound) {e : Stranger} {w : Nat} (hw : w < 4)
    (hnew : t.lookup e.key = none) (trees : Vector Tree 64) {count : Nat}
    (hcount : count = (Table.put (strangerSet e.key * Config.ways + w) e t.entries).length) :
    (Strangers.mk (Table.put (strangerSet e.key * Config.ways + w) e t.entries) trees count).Sound where
  canonical := ht.canonical.put ..
  sets x hx := by
    obtain rfl | hx := Table.mem_put hx
    · have : strangerSet e.key = e.key.number.toNat % 64 := rfl
      simp only [Config.ways]
      omega
    · exact ht.sets x hx
  nodup := Table.nodup_put ht.canonical Stranger.key ht.nodup _ fun x hx hkey =>
    Strangers.lookup_eq_none_iff.mp hnew x hx (hkey ▸ ht.sets x hx) hkey
  count := hcount

theorem Tree.victim_lt (b : Tree) : b.victim < 4 := by
  obtain ⟨b0, b1, b2⟩ := b
  revert b0 b1 b2
  decide

/-- What a stranger's telegram makes of the stranger table (R133): keys in their sets, and no new key but the telegram's. -/
theorem hearStranger_sound {m : Part} (ht : m.strangers.Sound) (q : Queued) (lead : Option Nat) :
    (m.hearStranger q lead).strangers.Sound ∧
    ∀ x ∈ (m.hearStranger q lead).strangers.places, x.2 = q.telegram.key ∨ x ∈ m.strangers.places := by
  have put_keys : ∀ p (e : Stranger), e.key = q.telegram.key →
      ∀ x ∈ (Table.put p e m.strangers.entries).map (fun e => (e.1, e.2.key)),
        x.2 = q.telegram.key ∨ x ∈ m.strangers.places := by
    intro p e hkey x hx
    obtain ⟨y, hy, rfl⟩ := List.mem_map.mp hx
    obtain rfl | hy := Table.mem_put hy
    · exact .inl hkey
    · exact .inr (List.mem_map_of_mem hy)
  unfold Part.hearStranger
  split
  · exact ⟨ht.of_places (Strangers.refresh_places ..) rfl, fun x hx => .inr (Strangers.refresh_places .. ▸ hx)⟩
  · next hnew =>
    split
    · next w hfree =>
      obtain ⟨habsent, hw, -⟩ := findWay_eq_some_iff.mp hfree
      have hlength := Table.length_put_of_absent (Option.isNone_iff_eq_none.mp habsent) (Stranger.ofQueued q lead)
      exact ⟨ht.put (e := .ofQueued q lead) hw hnew _ (by rw [ht.count]; exact hlength.symm), put_keys _ _ rfl⟩
    · next hfull =>
      have hw := (m.strangers.tree q.telegram.key).victim_lt
      have hpresent := findWay_eq_none_iff.mp hfull _ hw
      obtain ⟨old, hold⟩ := Option.isSome_iff_exists.mp (Option.isNone_eq_false_iff.mp hpresent)
      have hlength := Table.length_put_of_present ht.canonical hold (Stranger.ofQueued q lead)
      exact ⟨ht.put (e := .ofQueued q lead) hw hnew _ (by rw [ht.count]; exact hlength.symm), put_keys _ _ rfl⟩

/-- The route states before START ROUTE, in which the stranger table is empty (R139). -/
def beforeStart (r : RouteState) : Prop := r = .empty ∨ r = .loading ∨ r = .ready

theorem Part.strangersTrue_iff {m : Part} :
    m.StrangersTrue ↔ m.strangers.Sound ∧ (∀ x ∈ m.strangers.places, ∀ y ∈ m.dir.places, y.2 ≠ x.2) ∧
      (beforeStart m.route.state → m.strangers.places = []) := by
  constructor
  · rintro ⟨hc, hsets, hnodup, hcount, hapart, hbefore⟩
    refine ⟨⟨hc, hsets, hnodup, hcount⟩, ?_, fun h => List.map_eq_nil_iff.mpr (hbefore h)⟩
    simpa only [Strangers.places, Directory.places, List.forall_mem_map] using hapart
  · rintro ⟨⟨hc, hsets, hnodup, hcount⟩, hapart, hbefore⟩
    refine ⟨hc, hsets, hnodup, hcount, ?_, fun h => List.map_eq_nil_iff.mp (hbefore h)⟩
    simpa only [Strangers.places, Directory.places, List.forall_mem_map] using hapart

theorem KeepsPlaces.strangersTrue {m n : Part} (h : KeepsPlaces m n) (hm : m.StrangersTrue) : n.StrangersTrue := by
  obtain ⟨hsound, hapart, hbefore⟩ := Part.strangersTrue_iff.mp hm
  refine Part.strangersTrue_iff.mpr ⟨hsound.of_places h.strangers h.count, ?_, ?_⟩
  · rw [h.strangers, h.members]
    exact hapart
  · rw [h.strangers, h.route]
    exact hbefore

/-- The route state matters to the stranger table only until START ROUTE. -/
theorem Part.StrangersTrue.of_route {m : Part} (hm : m.StrangersTrue) {r : RouteControl}
    (h : beforeStart r.state → beforeStart m.route.state) : Part.StrangersTrue { m with route := r } := by
  obtain ⟨hsound, hapart, hbefore⟩ := Part.strangersTrue_iff.mp hm
  exact Part.strangersTrue_iff.mpr ⟨hsound, hapart, hbefore ∘ h⟩

theorem Part.StrangersTrue.moveRoute {m : Part} (hm : m.StrangersTrue) {r : RouteState}
    (h : beforeStart r → beforeStart m.route.state) : (m.moveRoute r).StrangersTrue :=
  hm.of_route (r := { m.route with state := r }) h

theorem strangersTrue_of_no_entry {m : Part} (hentries : m.strangers.entries = []) (hcount : m.strangers.count = 0) :
    m.StrangersTrue := by
  have hplaces : m.strangers.places = [] := List.map_eq_nil_iff.mpr hentries
  refine Part.strangersTrue_iff.mpr ⟨Strangers.sound_iff.mpr ?_, by simp [hplaces], fun _ => hplaces⟩
  simp [hplaces, hcount]

/-- A telegram of a key that no member holds, heard in RUNNING. -/
theorem hearStranger_strangersTrue {m : Part} (hkeys : m.KeysTrue) (hm : m.StrangersTrue)
    (hrunning : m.route.state = .running) (q : Queued) (hnew : m.dir.lookup q.telegram.key = none)
    (lead : Option Nat) : (m.hearStranger q lead).StrangersTrue := by
  obtain ⟨hsound, hapart, -⟩ := Part.strangersTrue_iff.mp hm
  obtain ⟨hsound', hplaces⟩ := hearStranger_sound hsound q lead
  have hrest : (m.hearStranger q lead).dir = m.dir ∧ (m.hearStranger q lead).route = m.route := by
    obtain ⟨t, events, h⟩ := m.hearStranger_cases q lead
    rw [h]
    exact ⟨rfl, rfl⟩
  refine Part.strangersTrue_iff.mpr ⟨hsound', fun x hx y hy => ?_, fun h => ?_⟩
  · rw [hrest.1] at hy
    obtain hkey | hx := hplaces x hx
    · obtain ⟨e, he, rfl⟩ := List.mem_map.mp hy
      rw [hkey]
      exact hkeys.ne_of_lookup hnew e he
    · exact hapart x hx y hy
  · rw [hrest.2, hrunning] at h
    simp [beforeStart] at h

/-- Every effect keeps the strangers in their keys' sets, apart from each other and from the members. -/
theorem Effect.strangersTrue {m n : Part} (h : Effect m n) (hkeys : m.KeysTrue) (hm : m.StrangersTrue) :
    n.StrangersTrue := by
  cases h
  case routine h => exact (h.turns hkeys.1).keepsPlaces.strangersTrue hm
  case beginLoad hstate => exact hm.moveRoute fun _ => .inl hstate
  case loadStop | loadProfile | loadClass => exact hm
  case loadMember hstate _ _ =>
    have hnone := hm.2.2.2.2.2 (.inr (.inl hstate))
    exact strangersTrue_of_no_entry hnone (hm.2.2.2.1.trans (by rw [hnone]; rfl))
  case finishLoad hstate _ =>
    exact Part.StrangersTrue.moveRoute (m := m.countMembers.fillClasses) hm fun _ => .inr (.inl hstate)
  case clearRoute | coldStart => exact strangersTrue_of_no_entry rfl rfl
  case beginUpload hstate =>
    refine ((formOrder_turns m).keepsPlaces.strangersTrue hm).moveRoute ?_
    unfold Part.uploadState
    split_ifs <;> simp [beforeStart]
  case startRoute => exact Part.StrangersTrue.of_route (m := m.setShared _) hm (by simp [beforeStart])
  case endRoute => exact ((endRoute_turns m).keepsPlaces.strangersTrue hm).moveRoute (by simp [beforeStart])
  case skipSweep => exact (skipHead_keepsPlaces ..).strangersTrue hm
  case confirmBatch b _ _ =>
    have hitems := (confirmItems_turns b m).keepsPlaces.strangersTrue hm
    obtain h | h := finishUpload_cases (m.confirmItems b) <;> rw [h]
    · exact hitems
    · exact hitems.moveRoute (by simp [beforeStart])
  case completeTelegram e _ =>
    obtain h | ⟨hrunning, hnew, k, k', h⟩ := completeTelegram_cases hkeys.1 e
    · exact h.keepsPlaces.strangersTrue hm
    · rw [h]
      exact hearStranger_strangersTrue (m := { m with intake := k }) hkeys hm hrunning _ hnew _
  case endSecond => exact Part.StrangersTrue.of_route hm id

theorem strangersTrue_of_sameBlocks {m n : Part} (h : m.SameBlocks n) (hm : m.StrangersTrue) : n.StrangersTrue := by
  obtain ⟨_, _, _, rfl⟩ := h
  exact hm

/-- Settles O8: what stands where is loaded by LOAD MEMBER and heard strangers alone, and both keep the keys apart. -/
theorem keysStayTrue : Obligations.KeysStayTrue := by
  refine ⟨fun s t hs h => ?_, fun s t hkeys hs h => ?_⟩
  · exact step_keeps (fun _ _ => keysTrue_of_sameBlocks) (fun _ _ => Effect.keysTrue) h hs
  · exact (step_keeps (P := fun m => m.KeysTrue ∧ m.StrangersTrue)
      (fun _ _ h hm => ⟨keysTrue_of_sameBlocks h hm.1, strangersTrue_of_sameBlocks h hm.2⟩)
      (fun _ _ h hm => ⟨h.keysTrue hm.1, h.strangersTrue hm.1 hm.2⟩) h ⟨hkeys, hs⟩).2

end Sys2Proof.Machine
end

section
/-! SUPPORT. The loading record (R22, R24, R25, R28, R85): its marks and counts are those of the tables, and an EMPTY
route holds nothing. -/

namespace Sys2Proof.Machine

/-- The route states in which a class holds a record only when LOAD CLASS has loaded it; FINISH LOAD fills in the others
(R28, R85). -/
def classesOpen (r : RouteState) : Prop := r = .empty ∨ r = .loading

/-- The stop count, the route positions and the marks are those of the tables (R22, R24, R25, R28, R85). -/
structure Part.MarksTrue (m : Part) : Prop where
  stops : m.route.stopsLoaded = m.stops.places.length
  distinct : (m.stops.places.map Prod.snd).Nodup
  below : ∀ x ∈ m.stops.places, x.2 < m.stops.places.length
  profiles : ∀ n < 16, m.route.profilesLoaded.getLsbD n = (Table.find m.profiles n).isSome
  loading : classesOpen m.route.state →
    ∀ n < 4, m.route.classesLoaded.getLsbD n = (Table.find m.tamper.classes n).isSome
  finished : ¬ classesOpen m.route.state → ∀ n < 4, (Table.find m.tamper.classes n).isSome = true

/-- Every table of the route is empty, its clock at 0 and stopped. -/
structure Part.Blank (m : Part) : Prop where
  ways : m.dir.ways = []
  records : m.stops.records = []
  profiles : m.profiles = []
  classes : m.tamper.classes = []
  store : m.store = []
  entries : m.strangers.entries = []
  sweep : m.stops.sweep = []
  alerts : m.tamper.alerts = []
  clock : m.route.clock = 0
  stopped : m.route.clockRunning = false

theorem Part.loadingTrue_iff {m : Part} : m.LoadingTrue ↔ m.MarksTrue ∧ (m.route.state = .empty → m.Blank) := by
  have hstops : m.MarksTrue ↔ m.route.stopsLoaded = m.stops.records.length ∧
      (m.stops.records.map (fun e => e.2.position)).Nodup ∧
      (∀ e ∈ m.stops.records, e.2.position < m.stops.records.length) ∧
      (∀ n, n < 16 → m.route.profilesLoaded.getLsbD n = (Table.find m.profiles n).isSome) ∧
      (classesOpen m.route.state →
        ∀ n, n < 4 → m.route.classesLoaded.getLsbD n = (Table.find m.tamper.classes n).isSome) ∧
      (¬ classesOpen m.route.state → ∀ n, n < 4 → (Table.find m.tamper.classes n).isSome = true) := by
    have hplaces : m.stops.places = m.stops.records.map (fun e => (e.1, e.2.position)) := rfl
    have hpositions : m.stops.places.map Prod.snd = m.stops.records.map (fun e => e.2.position) := by
      simp [hplaces]
    have hlength : m.stops.places.length = m.stops.records.length := List.length_map ..
    rw [← hpositions, ← hlength]
    constructor
    · rintro ⟨h1, h2, h3, h4, h5, h6⟩
      rw [hplaces, List.forall_mem_map, ← hplaces] at h3
      exact ⟨h1, h2, h3, h4, h5, h6⟩
    · rintro ⟨h1, h2, h3, h4, h5, h6⟩
      refine ⟨h1, h2, ?_, h4, h5, h6⟩
      rw [hplaces, List.forall_mem_map, ← hplaces]
      exact h3
  rw [hstops]
  constructor
  · rintro ⟨h1, h2, h3, h4, h5, h6, h7⟩
    refine ⟨⟨h1, h2, h3, h4, h5, fun h => h6 (h ∘ .inl) (h ∘ .inr)⟩, fun h => ?_⟩
    obtain ⟨b1, b2, b3, b4, b5, b6, b7, b8, b9, b10⟩ := h7 h
    exact ⟨b1, b2, b3, b4, b5, b6, b7, b8, b9, b10⟩
  · rintro ⟨⟨h1, h2, h3, h4, h5, h6⟩, h7⟩
    refine ⟨h1, h2, h3, h4, h5, fun h h' => h6 (not_or.mpr ⟨h, h'⟩), fun h => ?_⟩
    obtain ⟨b1, b2, b3, b4, b5, b6, b7, b8, b9, b10⟩ := h7 h
    exact ⟨b1, b2, b3, b4, b5, b6, b7, b8, b9, b10⟩

/-- Outside EMPTY the loading record is true when its marks are. -/
theorem Part.MarksTrue.loadingTrue {m : Part} (h : m.MarksTrue) (hstate : m.route.state ≠ .empty) : m.LoadingTrue :=
  Part.loadingTrue_iff.mpr ⟨h, fun hempty => absurd hempty hstate⟩

theorem Part.Blank.loadingTrue {m : Part} (h : m.Blank) (hstops : m.route.stopsLoaded = 0)
    (hprofiles : m.route.profilesLoaded = 0) (hclasses : m.route.classesLoaded = 0) (hstate : m.route.state = .empty) :
    m.LoadingTrue := by
  have hplaces : m.stops.places = [] := List.map_eq_nil_iff.mpr h.records
  refine Part.loadingTrue_iff.mpr ⟨⟨?_, ?_, ?_, ?_, ?_, fun hopen => absurd (.inl hstate) hopen⟩, fun _ => h⟩
  · rw [hstops, hplaces]
    rfl
  · simp [hplaces]
  · simp [hplaces]
  · simp [hprofiles, h.profiles]
  · simp [hclasses, h.classes]

theorem KeepsPlaces.marksTrue {m n : Part} (h : KeepsPlaces m n) (hm : m.MarksTrue) : n.MarksTrue := by
  obtain ⟨hstops, hdistinct, hbelow, hprofiles, hloading, hfinished⟩ := hm
  rw [← h.route, ← h.stops] at hstops
  rw [← h.stops] at hdistinct hbelow
  rw [← h.route, ← h.profiles] at hprofiles
  rw [← h.route, ← h.classes] at hloading hfinished
  exact ⟨hstops, hdistinct, hbelow, hprofiles, hloading, hfinished⟩

/-- The marks stand through every move of the route state but FINISH LOAD's. -/
theorem Part.MarksTrue.moveRoute {m : Part} (hm : m.MarksTrue) {r : RouteState}
    (hopen : classesOpen r ↔ classesOpen m.route.state) : (m.moveRoute r).MarksTrue :=
  { hm with
    loading := fun h => hm.loading (hopen.mp h)
    finished := fun h => hm.finished (h ∘ hopen.mpr) }

/-- A mark set with its entry written (R25). -/
theorem getLsbD_or_mark {α : Type} {w : Nat} {marks : BitVec w} {t : Table α}
    (h : ∀ n < w, marks.getLsbD n = (Table.find t n).isSome) (i : Nat) (v : α) :
    ∀ n < w, (marks ||| BitVec.ofNat w (2 ^ i)).getLsbD n = (Table.find (Table.put i v t) n).isSome := by
  intro n hn
  rw [BitVec.getLsbD_or, BitVec.getLsbD_ofNat, h n hn, Nat.testBit_two_pow]
  by_cases hi : i = n
  · subst hi
    simp [hn]
  · simp [hi, Table.find_put_of_ne (Ne.symm hi)]

/-- LOAD STOP gives the next route position (R24). -/
theorem Part.MarksTrue.loadStop {m : Part} (hm : m.MarksTrue) {n : Nat} (hnew : m.stop n = none) {r : Stop}
    (hr : r.position = m.route.stopsLoaded) :
    Part.MarksTrue { m with
      stops := { m.stops with records := Table.put n r m.stops.records }
      route := { m.route with stopsLoaded := m.route.stopsLoaded + 1 } } := by
  obtain ⟨hstops, hdistinct, hbelow, hprofiles, hloading, hfinished⟩ := hm
  have hperm : (Stops.places { m.stops with records := Table.put n r m.stops.records }).Perm
      ((n, r.position) :: m.stops.places) := (Table.put_perm_of_absent hnew r).map _
  have hlength := hperm.length_eq
  rw [List.length_cons] at hlength
  refine ⟨?_, ?_, fun x hx => ?_, hprofiles, hloading, hfinished⟩
  · exact (congrArg (· + 1) hstops).trans hlength.symm
  · rw [(hperm.map Prod.snd).nodup_iff, List.map_cons, List.nodup_cons]
    refine ⟨fun h => ?_, hdistinct⟩
    obtain ⟨x, hx, hpos⟩ := List.mem_map.mp h
    have := hbelow x hx
    omega
  · rw [hlength]
    obtain rfl | hx := List.mem_cons.mp (hperm.mem_iff.mp hx)
    · dsimp only
      omega
    · exact (hbelow x hx).trans (Nat.lt_succ_self _)

/-- FINISH LOAD gives every class a record (R28, R85). -/
theorem fillClasses_find (m : Part) : ∀ n < 4, (Table.find m.fillClasses.tamper.classes n).isSome = true := by
  intro n hn
  interval_cases n <;> rfl

theorem Part.MarksTrue.finishLoad {m : Part} (hm : m.MarksTrue) :
    (m.countMembers.fillClasses.moveRoute .ready).MarksTrue := by
  have hplaces : m.countMembers.stops.places = m.stops.places := Stops.places_mapValues _ m.stops _ _ _ fun _ => rfl
  obtain ⟨hstops, hdistinct, hbelow, hprofiles, _, _⟩ := hm
  rw [← hplaces] at hstops hdistinct hbelow
  exact ⟨hstops, hdistinct, hbelow, hprofiles, by simp [classesOpen], fun _ => fillClasses_find m.countMembers⟩

/-! What an EMPTY route does: nothing -/

theorem Part.Blank.of_items {m n : Part} (hm : m.Blank) (h : ItemsTouched m n) : n.Blank := by
  obtain ⟨store, upload, t, rfl, hlength, hplaces, _⟩ := h
  have hstore : store = [] := List.length_eq_zero_iff.mp (hlength.trans (by rw [hm.store]; rfl))
  have hentries : t.entries = [] := List.map_eq_nil_iff.mp (hplaces.trans (List.map_eq_nil_iff.mpr hm.entries))
  exact { hm with store := hstore, entries := hentries }

theorem Part.Blank.returnBatch {m : Part} (hm : m.Blank) (b : Batch) : (m.returnBatch b).Blank :=
  hm.of_items (returnBatch_touches b m)

theorem Part.Blank.returnBatches {m : Part} (hm : m.Blank) : m.returnBatches.Blank := by
  unfold Part.returnBatches
  generalize m.upload.batches = l
  induction l generalizing m with
  | nil => exact hm
  | cons b rest ih => exact ih (hm.returnBatch b)

theorem Part.Blank.clearVolatile {m : Part} (hm : m.Blank) : m.clearVolatile.Blank := { hm with }

theorem Part.Blank.closeLingering {m : Part} (hm : m.Blank) : m.closeLingering = m := by
  unfold Part.closeLingering Stops.lingering
  rw [hm.records]
  rfl

theorem Part.Blank.stop {m : Part} (hm : m.Blank) (n : Nat) : m.stop n = none := by
  unfold Part.stop
  rw [hm.records]
  rfl

/-- The routine of a route under way finds nothing to do in an EMPTY one. -/
theorem Part.Blank.routine {m n : Part} (hm : m.Blank) (hstate : m.route.state = .empty) (h : Routine m n) :
    n.Blank := by
  cases h
  case none => exact hm
  case openStop h _ _ _ _ | startLinger h _ _ _ _ | closeStop h _ _ _ _ | nextBatch h _ _ | queueTelegram h _ =>
    rw [hstate] at h
    cases h
  case expireLinger hstop _ _ =>
    rw [hm.stop] at hstop
    cases hstop
  case acknowledge => exact { hm with alerts := by simp [hm.alerts] }
  case setPass => exact { hm with }
  case clearTamper h _ _ => exact absurd hstate h
  case returnBatch => exact hm.returnBatch _
  case returnBatches => exact hm.returnBatches
  case warmStart =>
    rw [hm.clearVolatile.closeLingering]
    exact hm.clearVolatile.returnBatches
  case clearVolatile => exact hm.clearVolatile

theorem completeTelegram_dropped {m : Part} (h : m.route.state ≠ .running) (e : Evaluation) :
    ∃ k : Intake, m.completeTelegram e = { m with intake := k } := by
  unfold Part.completeTelegram
  dsimp only
  rw [if_pos (.inr h)]
  exact ⟨_, rfl⟩

/-- The marks stand where nothing was loaded or removed and the route is not EMPTY. -/
theorem KeepsPlaces.loadingTrue {m n : Part} (h : KeepsPlaces m n) (hm : m.MarksTrue)
    (hstate : m.route.state ≠ .empty) : n.LoadingTrue := (h.marksTrue hm).loadingTrue (by rwa [h.route])

theorem moveRoute_loadingTrue {m : Part} (hm : m.MarksTrue) {r : RouteState} (hfrom : ¬ classesOpen m.route.state)
    (hto : ¬ classesOpen r) : (m.moveRoute r).LoadingTrue :=
  (hm.moveRoute (iff_of_false hto hfrom)).loadingTrue fun h => hto (.inl h)

theorem not_classesOpen {r q : RouteState} (h : r = q) (hempty : q ≠ .empty := by decide)
    (hloading : q ≠ .loading := by decide) : ¬ classesOpen r := by
  subst h
  simp [classesOpen, hempty, hloading]

/-- Every effect keeps the loading record true. -/
theorem Effect.loadingTrue {m n : Part} (h : Effect m n) (hc : Table.Canonical m.dir.ways) (hm : m.LoadingTrue) :
    n.LoadingTrue := by
  obtain ⟨hmarks, hblank⟩ := Part.loadingTrue_iff.mp hm
  cases h
  case routine h =>
    have hkept := (h.turns hc).keepsPlaces
    refine Part.loadingTrue_iff.mpr ⟨hkept.marksTrue hmarks, fun hstate => ?_⟩
    rw [hkept.route] at hstate
    exact (hblank hstate).routine hstate h
  case beginLoad hstate =>
    exact (hmarks.moveRoute (by simp [classesOpen, hstate])).loadingTrue (by simp)
  case loadStop hstate _ hnew => exact (hmarks.loadStop hnew rfl).loadingTrue (by simp [hstate])
  case loadMember hstate _ _ => exact Part.MarksTrue.loadingTrue { hmarks with } (by simp [hstate])
  case loadProfile hstate _ =>
    exact Part.MarksTrue.loadingTrue { hmarks with profiles := getLsbD_or_mark hmarks.profiles _ _ } (by simp [hstate])
  case loadClass hstate _ =>
    have hloading : classesOpen m.route.state := .inr hstate
    exact Part.MarksTrue.loadingTrue
      { hmarks with
        loading := fun _ => getLsbD_or_mark (hmarks.loading hloading) _ _
        finished := fun h => absurd hloading h } (by simp [hstate])
  case finishLoad => exact hmarks.finishLoad.loadingTrue (by simp)
  case clearRoute | coldStart =>
    exact Part.Blank.loadingTrue ⟨rfl, rfl, rfl, rfl, rfl, rfl, rfl, rfl, rfl, rfl⟩ rfl rfl rfl rfl
  case beginUpload hstate =>
    have hkept := (formOrder_turns m).keepsPlaces
    refine moveRoute_loadingTrue (hkept.marksTrue hmarks) (not_classesOpen (hkept.route ▸ hstate)) ?_
    unfold Part.uploadState
    split_ifs <;> exact not_classesOpen rfl
  case startRoute hstate =>
    exact moveRoute_loadingTrue (m := { m with route := { m.route with clock := 0, clockRunning := true } })
      { hmarks with } (not_classesOpen hstate) (not_classesOpen rfl)
  case endRoute hstate _ =>
    have hkept := (endRoute_turns m).keepsPlaces
    exact moveRoute_loadingTrue (hkept.marksTrue hmarks) (not_classesOpen (hkept.route ▸ hstate)) (not_classesOpen rfl)
  case skipSweep hstate _ _ => exact (skipHead_keepsPlaces ..).loadingTrue hmarks (by simp [hstate])
  case confirmBatch b hstate _ =>
    have hkept := (confirmItems_turns b m).keepsPlaces
    obtain h | h := finishUpload_cases (m.confirmItems b) <;> rw [h]
    · exact hkept.loadingTrue hmarks (by simp [hstate])
    · exact moveRoute_loadingTrue (hkept.marksTrue hmarks) (not_classesOpen (hkept.route ▸ hstate)) (not_classesOpen rfl)
  case completeTelegram e _ =>
    by_cases hstate : m.route.state = .running
    · have hfilled : m.route.state ≠ .empty := by simp [hstate]
      obtain h | ⟨_, _, k, k', h⟩ := completeTelegram_cases hc e
      · exact h.keepsPlaces.loadingTrue hmarks hfilled
      · obtain ⟨t, events, hheard⟩ := Part.hearStranger_cases e.queued m.stops.lead { m with intake := k }
        rw [h, hheard]
        exact Part.MarksTrue.loadingTrue { hmarks with } hfilled
    · obtain ⟨k, h⟩ := completeTelegram_dropped hstate e
      rw [h]
      exact Part.loadingTrue_iff.mpr ⟨{ hmarks with }, fun hempty => { hblank hempty with }⟩
  case endSecond =>
    refine Part.loadingTrue_iff.mpr ⟨{ hmarks with }, fun hempty => ?_⟩
    have hm := hblank hempty
    refine { hm with clock := ?_ }
    simp [Part.endSecond, hm.clock, hm.stopped]

theorem loadingTrue_of_sameBlocks {m n : Part} (h : m.SameBlocks n) (hm : m.LoadingTrue) : n.LoadingTrue := by
  obtain ⟨_, _, _, rfl⟩ := h
  exact hm

/-- Every step keeps the loading record true (R22, R24, R25, R28, R85). -/
theorem step_loadingTrue {s t : State} (hc : Table.Canonical s.part.dir.ways) (hs : s.part.LoadingTrue)
    (h : step s = .next t) : t.part.LoadingTrue := by
  refine (step_keeps (P := fun m => Table.Canonical m.dir.ways ∧ m.LoadingTrue) ?_ ?_ h ⟨hc, hs⟩).2
  · rintro m n hsame ⟨hc, hm⟩
    refine ⟨?_, loadingTrue_of_sameBlocks hsame hm⟩
    obtain ⟨_, _, _, rfl⟩ := hsame
    exact hc
  · rintro m n heffect ⟨hc, hm⟩
    exact ⟨heffect.canonical hc, heffect.loadingTrue hc hm⟩

/-- Settles O6: each effect moves the counts and the loading record as it moves the tables. -/
theorem countsStayTrue : Obligations.CountsStayTrue :=
  ⟨fun _ _ hs h => step_countsTrue hs h, fun _ _ htables hs h => step_loadingTrue htables.1.1 hs h⟩

end Sys2Proof.Machine
end

section
/-! SUPPORT. A READ member stays READ (R13, R54). -/

namespace Sys2Proof.Machine

/-- Every READ member of the one part is READ in the same way of the other, with its record index, key, prior reading
and stop. -/
def ReadKept (m n : Part) : Prop :=
  ∀ p r, Table.find m.dir.ways p = some r → r.readState = .read →
    ∃ r' : Member, Table.find n.dir.ways p = some r' ∧ r'.readState = .read ∧ r'.record = r.record ∧
      r'.key = r.key ∧ r'.prior = r.prior ∧ r'.stop = r.stop

/-- A READ member whose way reads as before is kept. -/
theorem readKept_of_find {m n : Part}
    (h : ∀ p r, Table.find m.dir.ways p = some r → r.readState = .read → Table.find n.dir.ways p = some r) :
    ReadKept m n := fun p r hfind hread => ⟨r, h p r hfind hread, hread, rfl, rfl, rfl, rfl⟩

theorem readKept_of_dir {m n : Part} (h : n.dir = m.dir) : ReadKept m n :=
  readKept_of_find fun _ _ hfind _ => h ▸ hfind

theorem ReadKept.trans {m n k : Part} (h : ReadKept m n) (h' : ReadKept n k) : ReadKept m k := by
  intro p r hfind hread
  obtain ⟨r₁, hfind₁, hread₁, hrecord₁, hkey₁, hprior₁, hstop₁⟩ := h p r hfind hread
  obtain ⟨r₂, hfind₂, hread₂, hrecord₂, hkey₂, hprior₂, hstop₂⟩ := h' p r₁ hfind₁ hread₁
  exact ⟨r₂, hfind₂, hread₂, hrecord₂.trans hrecord₁, hkey₂.trans hkey₁, hprior₂.trans hprior₁,
    hstop₂.trans hstop₁⟩

theorem readKept_onMember {f : Member → Member} (hf : Member.TampersAlone f) (p : Nat) (m : Part) :
    ReadKept m (m.onMember p f) := by
  intro q r hfind hread
  rw [Part.onMember_ways, Table.find_modify, hfind]
  split_ifs
  · obtain ⟨_, _, _, _, heq⟩ := hf r
    exact ⟨f r, rfl, by rw [heq]; exact hread, by rw [heq], by rw [heq], by rw [heq], by rw [heq]⟩
  · exact ⟨r, rfl, hread, rfl, rfl, rfl, rfl⟩

/-- A READ member does not stand in a way that holds none. -/
theorem Part.Unheard.ne {m : Part} {p q : Nat} (h : m.Unheard p) {r : Member} (hfind : Table.find m.dir.ways q = some r)
    (hread : r.readState = .read) : q ≠ p := by
  rintro rfl
  exact h r hfind hread

theorem Part.Unheard.readKept_setReadState {m : Part} {p : Nat} (h : m.Unheard p) (r : ReadState) :
    ReadKept m (m.setReadState p r) := by
  refine readKept_of_find fun q e hfind hread => ?_
  rw [Part.find_setReadState, if_neg (h.ne hfind hread), hfind]

theorem Turn.readKept {m n : Part} (h : Turn m n) : ReadKept m n := by
  cases h
  case same h =>
    obtain ⟨_, _, _, rfl⟩ := h
    exact readKept_of_dir rfl
  case tamper | stops | intake | items => exact readKept_of_dir rfl
  case member hf => exact readKept_onMember hf _ m
  case leave h => exact h.readKept_setReadState _
  case read h =>
    refine readKept_of_find fun q e hfind hread => ?_
    have hq := h.ne hfind hread
    rw [Part.onMember_ways, Table.find_modify, Part.find_setReadState, if_neg hq, if_neg hq, hfind]
  case giveUp =>
    refine readKept_of_find fun q e hfind hread => ?_
    simp only [Directory.giveUp, Table.find_mapValues, hfind, Option.map_some, hread, if_true]

theorem Turns.readKept {m n : Part} (h : Turns m n) : ReadKept m n := by
  induction h with
  | refl => exact readKept_of_dir rfl
  | tail _ hturn ih => exact ih.trans hturn.readKept

/-- The member of the sweep list's head is CARRIED, so giving it up leaves the READ members (R120, R122). -/
theorem readKept_skipHead {m : Part} (hkeys : m.KeysTrue) (hsweep : m.SweepTrue) {e : SweepEntry}
    {rest : List SweepEntry} (hhead : m.stops.sweep = e :: rest) : ReadKept m (m.skipHead e rest) := by
  obtain ⟨_, h⟩ | ⟨p, r, hlookup, h⟩ := skipHead_cases e rest m <;> rw [h]
  · exact readKept_of_dir rfl
  · obtain ⟨hmem, _, hkey⟩ := Directory.lookup_eq_some hlookup
    obtain ⟨hc, _, hnodup⟩ := hkeys
    obtain ⟨_, hcarried, _⟩ := hsweep
    obtain ⟨x, hx, hxkey, _, hstate⟩ := hcarried e (by simp [hhead])
    have hsame : x = (p, r) := List.inj_on_of_nodup_map hnodup hx hmem (hxkey.trans hkey.symm)
    subst hsame
    have hunheard : m.Unheard p := Part.unheard_of_mem hc hx (ne_of_eq_of_ne hstate (by decide))
    exact Part.Unheard.readKept_setReadState (m := m.onStops _) hunheard _

/-- Every effect keeps the READ members, or empties the directory. -/
theorem Effect.readKept {m n : Part} (h : Effect m n) (hkeys : m.KeysTrue) (hsweep : m.SweepTrue) :
    n.dir.ways = [] ∨ ReadKept m n := by
  cases h
  case routine h => exact .inr (h.turns hkeys.1).readKept
  case beginLoad | loadStop | loadProfile | loadClass | finishLoad | startRoute | endSecond =>
    exact .inr (readKept_of_dir rfl)
  case loadMember position _ _ hfree =>
    refine .inr (readKept_of_find fun q e hfind _ => ?_)
    have hq : q ≠ position := by
      rintro rfl
      cases (Directory.freePosition_set hfree).2.symm.trans hfind
    exact (Table.find_put_of_ne hq ..).trans hfind
  case clearRoute | coldStart => exact .inl rfl
  case beginUpload => exact .inr ((formOrder_turns m).readKept.trans (readKept_of_dir rfl))
  case endRoute => exact .inr ((endRoute_turns m).readKept.trans (readKept_of_dir rfl))
  case skipSweep hhead => exact .inr (readKept_skipHead hkeys hsweep hhead)
  case confirmBatch b _ _ =>
    have hitems := (confirmItems_turns b m).readKept
    obtain h | h := finishUpload_cases (m.confirmItems b) <;> rw [h]
    · exact .inr hitems
    · exact .inr (hitems.trans (readKept_of_dir rfl))
  case completeTelegram e _ =>
    obtain h | ⟨_, _, k, k', h⟩ := completeTelegram_cases hkeys.1 e
    · exact .inr h.readKept
    · refine .inr (readKept_of_dir ?_)
      rw [h, hearStranger_dir]

theorem Event.readKept {m n : Part} (h : Event m n) (hkeys : m.KeysTrue) (hsweep : m.SweepTrue) :
    n.dir.ways = [] ∨ ReadKept m n := by
  obtain ⟨_, _, ⟨_, _, _, rfl⟩, heffect, ⟨_, _, _, rfl⟩⟩ := h
  exact heffect.readKept hkeys hsweep

/-- Settles O13: one event is one effect, ports aside. -/
theorem readMemberStaysRead : Obligations.ReadMemberStaysRead := by
  intro c s t hone hkeys hsweep _ h
  exact (exec_event hone h).readKept hkeys hsweep

end Sys2Proof.Machine
end

section
/-! SUPPORT. Requests as commands: a request's command serves it, and every frame command is its frame's judging. -/

namespace Sys2Proof.Machine

/-- A request that the cab does not carry is the depot's. -/
theorem port_eq_depot {p : HostPort} {r : Request} (hr : r ∈ portRequests p) (h : r ∉ portRequests .cab) : p = .depot := by
  cases p
  case cab => exact absurd hr h
  case depot => rfl

/-- A request that the depot does not carry is the cab's. -/
theorem port_eq_cab {p : HostPort} {r : Request} (hr : r ∈ portRequests p) (h : r ∉ portRequests .depot) : p = .cab := by
  cases p
  case cab => rfl
  case depot => exact absurd hr h

/-- A request's command is its frame coming in, for the request's own meaning. -/
theorem exec_commandOf {p : HostPort} {r : Request} (hr : r ∈ portRequests p) (tag : Byte) (body : List Byte)
    (s : State) : exec (commandOf r p tag body) s = act (requestEvent p r tag body (serve r p tag body)) s := by
  cases r
  case readMember | readStrangers | queryMembers | clearEvents | setMask | readState => rfl
  case startRoute | endRoute | openStop | closeStop | readStop | skipSweep | readSweep | acknowledgeAlert | readAlert
      | setPass =>
    cases port_eq_cab hr (by decide)
    rfl
  case beginLoad | loadStop | loadMember | loadProfile | loadClass | finishLoad | clearRoute | beginUpload | nextBatch
      | confirmBatch | rejectBatch | clearTamper =>
    cases port_eq_depot hr (by decide)
    rfl

/-- A request's command on a port that takes it makes of the part what the request does (R180). -/
theorem request_becomes {p : HostPort} {r : Request} (hr : r ∈ portRequests p) {s : State}
    (hready : Ready s (portLine p)) {tag : Byte} {body : List Byte} (hfits : body.length + 2 ≤ 64) {m : Part}
    (h : serve r p tag body s.part = m) : Becomes (commandOf r p tag body) s m :=
  h ▸ (exec_commandOf hr tag body s).trans (act_request_ready hready hfits r tag (serve r p tag body))

theorem requestOf_requestCode {p : HostPort} {r : Request} (hr : r ∈ portRequests p) :
    requestOf p (requestCode r) = some r := by
  revert r
  cases p <;> decide

/-- A request's sound frame is judged by serving the request (R180). -/
theorem judge_request {p : HostPort} {r : Request} (hr : r ∈ portRequests p) (tag : Byte) (body : List Byte) :
    judge (portLine p) (.sound (requestCode r) tag body) = serve r p tag body := by
  funext m
  cases p <;> exact serveHost_sound (requestOf_requestCode hr) tag body m

theorem exec_request {p : HostPort} {r : Request} (hr : r ∈ portRequests p) (tag : Byte) (body : List Byte)
    (s : State) : exec (commandOf r p tag body) s =
      act (frameEvent (portLine p) (.sound (requestCode r) tag body)
        (judge (portLine p) (.sound (requestCode r) tag body))) s := by
  rw [judge_request hr]
  exact exec_commandOf hr tag body s

/-- A frame command is its frame coming in, to be judged by its port (R179). -/
theorem exec_frame_judged {c : Instr} {l : Line} {f : RxFrame} (h : frameOfCommand c = some (l, f)) (s : State) :
    exec c s = act (frameEvent l f (judge l f)) s := by
  cases c <;> cases h
  case telegram | radioUnknownCode => rfl
  case badFrame p => cases p <;> rfl
  case unknownCode p code tag body => cases p <;> rfl
  case beginLoad => exact exec_request (p := .depot) (r := .beginLoad) (by decide) ..
  case loadStop => exact exec_request (p := .depot) (r := .loadStop) (by decide) ..
  case loadMember => exact exec_request (p := .depot) (r := .loadMember) (by decide) ..
  case loadProfile => exact exec_request (p := .depot) (r := .loadProfile) (by decide) ..
  case loadClass => exact exec_request (p := .depot) (r := .loadClass) (by decide) ..
  case finishLoad => exact exec_request (p := .depot) (r := .finishLoad) (by decide) ..
  case clearRoute => exact exec_request (p := .depot) (r := .clearRoute) (by decide) ..
  case beginUpload => exact exec_request (p := .depot) (r := .beginUpload) (by decide) ..
  case nextBatch => exact exec_request (p := .depot) (r := .nextBatch) (by decide) ..
  case confirmBatch => exact exec_request (p := .depot) (r := .confirmBatch) (by decide) ..
  case rejectBatch => exact exec_request (p := .depot) (r := .rejectBatch) (by decide) ..
  case clearTamper => exact exec_request (p := .depot) (r := .clearTamper) (by decide) ..
  case startRoute => exact exec_request (p := .cab) (r := .startRoute) (by decide) ..
  case endRoute => exact exec_request (p := .cab) (r := .endRoute) (by decide) ..
  case openStop => exact exec_request (p := .cab) (r := .openStop) (by decide) ..
  case closeStop => exact exec_request (p := .cab) (r := .closeStop) (by decide) ..
  case readStop => exact exec_request (p := .cab) (r := .readStop) (by decide) ..
  case skipSweep => exact exec_request (p := .cab) (r := .skipSweep) (by decide) ..
  case readSweep => exact exec_request (p := .cab) (r := .readSweep) (by decide) ..
  case acknowledgeAlert => exact exec_request (p := .cab) (r := .acknowledgeAlert) (by decide) ..
  case readAlert => exact exec_request (p := .cab) (r := .readAlert) (by decide) ..
  case setPass => exact exec_request (p := .cab) (r := .setPass) (by decide) ..
  case readMember p _ _ => exact exec_request (r := .readMember) (by cases p <;> decide) ..
  case readStrangers p _ _ => exact exec_request (r := .readStrangers) (by cases p <;> decide) ..
  case queryMembers p _ _ => exact exec_request (r := .queryMembers) (by cases p <;> decide) ..
  case clearEvents p _ _ => exact exec_request (r := .clearEvents) (by cases p <;> decide) ..
  case setMask p _ _ => exact exec_request (r := .setMask) (by cases p <;> decide) ..
  case readState p _ _ => exact exec_request (r := .readState) (by cases p <;> decide) ..

/-- What one frame event can do: nothing on a line that is not taken, or its frame is served, or held. -/
theorem frameEvent_cases {l : Line} {f : RxFrame} {m : Part} (served : Part → Part)
    (hone : m.listening l = true → m.betweenFrames l = true ∧ f.fits = true) :
    frameEvent l f served m = m ∨ frameEvent l f served m = served m ∨
      frameEvent l f served m = m.onLink l (fun k => { k with held := some f }) := by
  cases hl : m.listening l
  · rw [frameEvent_bytes (by simp [hl]), receiveFrame_unheard hl]
    exact .inl rfl
  · obtain ⟨hbetween, hfits⟩ := hone hl
    cases hroom : m.hasRoom l
    · exact .inr (.inr (frameEvent_full hl hbetween hroom hfits served))
    · exact .inr (.inl (frameEvent_ready ((m.accepts_iff l).mpr ⟨hl, hbetween, hroom⟩) hfits served))

end Sys2Proof.Machine
end

section
/-! SUPPORT. The route state and the route clock: the operations that leave the route controller as it was. -/

namespace Sys2Proof.Machine

/-! Alerts, stops and hearings -/

@[simp] theorem Part.tamperOutcome_route (p : Nat) (r : Member) (inds : IndicatorSet) (m : Part) :
    (m.tamperOutcome p r inds).part.route = m.route := (tamperOutcome_turns p r inds m).keepsPlaces.route

@[simp] theorem Part.reportStop_route (stop : Nat) (m : Part) : (m.reportStop stop).route = m.route :=
  (reportStop_turns stop m).keepsPlaces.route

/-- A close's dealing with its members leaves the route controller (R114, R115). -/
theorem foldl_closing_route {g : Closing → Nat × Member → Closing} (hg : ∀ c e, (g c e).part.route = c.part.route)
    (l : List (Nat × Member)) (c : Closing) : (l.foldl g c).part.route = c.part.route := by
  induction l generalizing c with
  | nil => rfl
  | cons e rest ih => exact (ih (g c e)).trans (hg c e)

theorem dropMember_route (c : Closing) (e : Nat × Member) : (dropMember c e).part.route = c.part.route :=
  Part.setReadState_route ..

theorem carryMember_route (c : Closing) (e : Nat × Member) : (carryMember c e).part.route = c.part.route := by
  unfold carryMember
  split_ifs
  · exact Part.setReadState_route ..
  · exact Part.setReadState_route ..

theorem Part.disposeMembers_route (stop : Nat) (drop : Bool) (m : Part) :
    (m.disposeMembers stop drop).part.route = m.route := by
  have hcarry := foldl_closing_route carryMember_route (m.unreadOf stop) ⟨m, 0, 0⟩
  unfold Part.disposeMembers
  dsimp only
  split_ifs
  · exact foldl_closing_route dropMember_route ..
  · exact hcarry
  · exact hcarry

@[simp] theorem Part.closeStop_route (r : Stop) (drop : Bool) (m : Part) :
    (m.closeStop r drop).part.route = m.route :=
  (Part.reportStop_route ..).trans (Part.disposeMembers_route ..)

@[simp] theorem Part.closeLingering_route (m : Part) : m.closeLingering.route = m.route := by
  unfold Part.closeLingering
  generalize m.stops.lingering = l
  induction l generalizing m with
  | nil => rfl
  | cons r rest ih => exact (ih _).trans (m.closeStop_route r false)

@[simp] theorem Part.takeClose_route (tag : Byte) (r : Stop) (mode : CloseMode) (m : Part) :
    (m.takeClose tag r mode).route = m.route := by
  cases mode <;> simp [Part.takeClose]

@[simp] theorem Part.skipHead_route (e : SweepEntry) (rest : List SweepEntry) (m : Part) :
    (m.skipHead e rest).route = m.route := (skipHead_keepsPlaces e rest m).route

@[simp] theorem Part.firstHearing_route (p : Nat) (r : Member) (q : Queued) (m : Part) :
    (m.firstHearing p r q).route = m.route := by
  simp [Part.firstHearing]

@[simp] theorem Part.laterHearing_route (p : Nat) (r : Member) (index : Nat) (e : Record) (q : Queued) (m : Part) :
    (m.laterHearing p r index e q).route = m.route := (laterHearing_turns p r index e q m).keepsPlaces.route

@[simp] theorem Part.hearStranger_route (q : Queued) (lead : Option Nat) (m : Part) :
    (m.hearStranger q lead).route = m.route := by
  obtain ⟨t, events, h⟩ := m.hearStranger_cases q lead
  rw [h]
  rfl

@[simp] theorem Part.hear_route (q : Queued) (m : Part) : (m.hear q).route = m.route := by
  unfold Part.hear
  split
  · exact Part.hearStranger_route ..
  · split_ifs
    · split
      · rfl
      · split
        · rfl
        · exact Part.laterHearing_route ..
    · exact Part.firstHearing_route ..

@[simp] theorem Part.completeTelegram_route (e : Evaluation) (m : Part) :
    (m.completeTelegram e).route = m.route := by
  unfold Part.completeTelegram
  dsimp only
  split_ifs
  · rfl
  · exact Part.hear_route ..

/-! Batches and scans -/

@[simp] theorem Part.formBatch_route (number : Nat) (numbers : List Nat) (m : Part) :
    (m.formBatch number numbers).route = m.route := (formBatch_turns number numbers m).keepsPlaces.route

@[simp] theorem Part.returnBatch_route (b : Batch) (m : Part) : (m.returnBatch b).route = m.route :=
  (returnBatch_turns b m).keepsPlaces.route

@[simp] theorem Part.confirmItems_route (b : Batch) (m : Part) : (m.confirmItems b).route = m.route :=
  (confirmItems_turns b m).keepsPlaces.route

@[simp] theorem Part.returnBatches_route (m : Part) : m.returnBatches.route = m.route :=
  (returnBatches_turns m).keepsPlaces.route

@[simp] theorem Part.breakLink_route (m : Part) : m.breakLink.route = m.route := by
  unfold Part.breakLink
  split_ifs
  · rfl
  · exact m.returnBatches_route

@[simp] theorem Part.endScan_route (p : HostPort) (m : Part) : (m.endScan p).route = m.route := by
  unfold Part.endScan
  split <;> simp

@[simp] theorem Part.endScan_shared (p : HostPort) (m : Part) : (m.endScan p).ports.shared = m.ports.shared := by
  unfold Part.endScan
  split <;> simp

@[simp] theorem Part.answerClear_route (tag : Byte) (m : Part) : (m.answerClear tag).route = m.route := by
  unfold Part.answerClear
  dsimp only
  split
  · simp
  · split_ifs <;> simp

@[simp] theorem Part.answerClear_shared (tag : Byte) (m : Part) :
    (m.answerClear tag).ports.shared = m.ports.shared := by
  unfold Part.answerClear
  dsimp only
  split
  · simp
  · split_ifs <;> simp

@[simp] theorem Part.reachScan_route (p : HostPort) (c : Scan) (m : Part) : (m.reachScan p c).route = m.route := by
  unfold Part.reachScan
  dsimp only
  split_ifs <;> simp

/-! Expiries, lines and restarts -/

theorem Part.expireLinger_route (i : Fin 4) (m : Part) : (m.expireLinger i).route = m.route := by
  unfold Part.expireLinger
  split
  · split_ifs <;> simp
  · rfl

theorem Part.expireBatch_route (number : Nat) (m : Part) : (m.expireBatch number).route = m.route := by
  unfold Part.expireBatch
  split
  · rfl
  · split_ifs <;> simp

theorem Part.resetCab_route (m : Part) : m.resetCab.route = m.route := by
  unfold Part.resetCab
  dsimp only
  split_ifs <;> rfl

theorem Part.resetDepot_route (m : Part) : m.resetDepot.route = m.route := by
  unfold Part.resetDepot
  dsimp only
  split_ifs <;> simp

theorem Part.dock_route (m : Part) : m.dock.route = m.route := by
  unfold Part.dock
  dsimp only
  split_ifs <;> rfl

theorem Part.undock_route (m : Part) : m.undock.route = m.route := by
  unfold Part.undock
  dsimp only
  split_ifs
  · exact Part.breakLink_route ..
  · rfl

@[simp] theorem Part.warmRestart_route (m : Part) : m.warmRestart.route = m.route := by
  show m.clearVolatile.closeLingering.returnBatches.route = m.route
  simp only [Part.returnBatches_route, Part.closeLingering_route]
  rfl

theorem Part.assertReset_route (m : Part) : m.assertReset.route = m.route := by
  unfold Part.assertReset
  dsimp only
  split_ifs
  · split
    · exact Part.warmRestart_route ..
    · rfl
  · rfl

/-! Requests -/

/-- The requests that can move the route state (R20). -/
def routeRequests : List Request :=
  [.beginLoad, .finishLoad, .clearRoute, .beginUpload, .confirmBatch, .startRoute, .endRoute]

/-- A request that moves no route state leaves it: each of its branches refuses, or answers after an update of other
blocks, or of the loading record. -/
theorem serve_routeState {r : Request} (h : r ∉ routeRequests) (p : HostPort) (tag : Byte) (body : List Byte)
    (m : Part) : (serve r p tag body m).route.state = m.route.state := by
  cases r
  case beginLoad | finishLoad | clearRoute | beginUpload | confirmBatch | startRoute | endRoute =>
    exact absurd (by decide) h
  case loadStop | loadMember | loadProfile | loadClass =>
    simp only [serve, serveLoadStop, serveLoadMember, serveLoadProfile, serveLoadClass]
    repeat' split
    all_goals simp
  case openStop | closeStop | readStop | skipSweep | readSweep =>
    simp only [serve, serveOpenStop, serveCloseStop, serveReadStop, serveSkipSweep, serveReadSweep]
    repeat' split
    all_goals simp
  case acknowledgeAlert | readAlert | setPass | clearTamper =>
    simp only [serve, serveAcknowledgeAlert, serveReadAlert, serveSetPass, serveClearTamper]
    repeat' split
    all_goals simp
  case nextBatch | rejectBatch =>
    simp only [serve, serveNextBatch, serveRejectBatch]
    repeat' split
    all_goals simp
  case readMember | readStrangers | queryMembers | clearEvents | setMask | readState =>
    simp only [serve, serveReadMember, serveReadStrangers, serveQueryMembers, serveClearEvents, serveSetMask,
      serveReadState]
    repeat' split
    all_goals simp

end Sys2Proof.Machine
end

section
/-! SUPPORT. The moves of the route state (R20, R21): one event makes one move of the table, or none, or a cold start. -/

namespace Sys2Proof.Machine

/-- The route state stays, or makes one move of its table with ROUTE_CHANGED set (R20, R21). -/
def MovesByTable (m n : Part) : Prop :=
  n.route.state = m.route.state ∨
    ((m.route.state, n.route.state) ∈ routeMoves ∧ n.ports.shared &&& evRouteChanged = evRouteChanged)

theorem movesByTable_of_route {m n : Part} (h : n.route = m.route) : MovesByTable m n := .inl (by rw [h])

/-- An event that has just been set stands in its set. -/
theorem events_or_and_cancel (a e : EventSet) : (a ||| e) &&& e = e := by
  ext i hi
  simpa using .inr

/-- A move of the table, made with ROUTE_CHANGED. -/
theorem movesByTable_moveRoute {m n : Part} {r : RouteState} (h : (m.route.state, r) ∈ routeMoves) :
    MovesByTable m (n.moveRoute r) :=
  .inr ⟨h, events_or_and_cancel n.ports.shared evRouteChanged⟩

theorem MovesByTable.answer {m n : Part} (h : MovesByTable m n) (p : HostPort) (tag : Byte) (code : ReplyCode)
    (reply : Reply) : MovesByTable m (n.answer p tag code reply) := by
  simpa [MovesByTable] using h

theorem MovesByTable.answerClear {m n : Part} (h : MovesByTable m n) (tag : Byte) :
    MovesByTable m (n.answerClear tag) := by
  simpa [MovesByTable] using h

/-- The part from which an event starts matters by its route controller alone. -/
theorem MovesByTable.of_start {m m₀ n : Part} (h : MovesByTable m₀ n) (hroute : m₀.route = m.route) :
    MovesByTable m n := by
  rwa [MovesByTable, hroute] at h

/-! Requests -/

theorem movesByTable_refuse (p : HostPort) (tag : Byte) (code : ReplyCode) (m : Part) :
    MovesByTable m (m.refuse p tag code) := movesByTable_of_route (m.refuse_route p tag code)

theorem movesByTable_answer (p : HostPort) (tag : Byte) (code : ReplyCode) (reply : Reply) (m : Part) :
    MovesByTable m (m.answer p tag code reply) := movesByTable_of_route (m.answer_route p tag code reply)

/-- Every state but EMPTY has a move to EMPTY (R38). -/
theorem routeMoves_empty {q : RouteState} (h : q ≠ .empty) : (q, RouteState.empty) ∈ routeMoves := by
  revert h
  cases q <;> decide

theorem serve_moves (r : Request) (p : HostPort) (tag : Byte) (body : List Byte) (m : Part) :
    MovesByTable m (serve r p tag body m) := by
  by_cases hr : r ∉ routeRequests
  · exact .inl (serve_routeState hr p tag body m)
  cases r
  case beginLoad =>
    simp only [serve, serveBeginLoad]
    split_ifs with hstate
    · exact movesByTable_refuse ..
    · exact movesByTable_refuse ..
    · exact (movesByTable_moveRoute (by rw [not_not.mp hstate]; decide)).answer ..
  case finishLoad =>
    simp only [serve, serveFinishLoad]
    split_ifs with hstate
    · exact movesByTable_refuse ..
    · exact movesByTable_refuse ..
    · split
      · exact movesByTable_answer ..
      · exact (movesByTable_moveRoute (by rw [not_not.mp hstate]; decide)).answer ..
  case clearRoute =>
    simp only [serve, serveClearRoute]
    split_ifs with hstate
    · exact movesByTable_refuse ..
    · split
      · exact movesByTable_refuse ..
      · split_ifs
        · exact movesByTable_refuse ..
        · exact (movesByTable_moveRoute (routeMoves_empty hstate)).answerClear _
  case beginUpload =>
    simp only [serve, serveBeginUpload]
    split_ifs with hstate
    · exact movesByTable_refuse ..
    · exact movesByTable_refuse ..
    · refine (movesByTable_moveRoute ?_).answer ..
      rw [not_not.mp hstate]
      unfold Part.uploadState
      split_ifs <;> decide
  case confirmBatch =>
    simp only [serve, serveConfirmBatch]
    split_ifs with hstate
    · exact movesByTable_refuse ..
    · split
      · exact movesByTable_refuse ..
      · split
        · exact movesByTable_answer ..
        · next b _ =>
          refine MovesByTable.answer ?_ ..
          obtain h | h := finishUpload_cases (m.confirmItems b) <;> rw [h]
          · exact movesByTable_of_route (m.confirmItems_route b)
          · exact movesByTable_moveRoute (by rw [not_not.mp hstate]; decide)
  case startRoute =>
    simp only [serve, serveStartRoute]
    split_ifs with hstate
    · exact movesByTable_refuse ..
    · exact movesByTable_refuse ..
    · exact (movesByTable_moveRoute (by rw [not_not.mp hstate]; decide)).answer ..
  case endRoute =>
    simp only [serve, serveEndRoute]
    split_ifs with hstate
    · exact movesByTable_refuse ..
    · exact movesByTable_refuse ..
    · exact movesByTable_refuse ..
    · exact (movesByTable_moveRoute (by rw [not_not.mp hstate]; decide)).answer ..
  all_goals exact absurd (by decide) hr

/-! Frames and bytes -/

theorem serveRadio_route (f : RxFrame) (m : Part) : (serveRadio f m).route = m.route := by
  unfold serveRadio
  split
  · exact Part.answerRadio_route ..
  · split_ifs
    · exact Part.answerRadio_route ..
    · split
      · exact Part.answerRadio_route ..
      · unfold Part.receiveTelegram
        split_ifs <;> rfl

theorem serveHost_moves (p : HostPort) (f : RxFrame) (m : Part) : MovesByTable m (serveHost p f m) := by
  have hbad : (serveBadFrame p f m).route = m.route := by simp [serveBadFrame]
  unfold serveHost
  split
  · exact movesByTable_of_route hbad
  · split_ifs
    · split
      · exact serve_moves ..
      · exact movesByTable_refuse ..
    · exact movesByTable_of_route hbad

theorem judge_moves (l : Line) (f : RxFrame) (m : Part) : MovesByTable m (judge l f m) := by
  cases l
  case radio => exact movesByTable_of_route (serveRadio_route f m)
  case cab => exact serveHost_moves .cab f m
  case depot => exact serveHost_moves .depot f m

theorem arrive_moves (l : Line) (f : RxFrame) (m : Part) : MovesByTable m (arrive l f m) := by
  obtain ⟨_, h⟩ | ⟨_, h⟩ := arrive_cases l f m <;> rw [h]
  · exact judge_moves l f m
  · exact movesByTable_of_route (m.onLink_route ..)

/-- A frame arrives where the assembly has just been emptied. -/
theorem arrive_assembled_moves (l : Line) (f : RxFrame) (a : Assembly) (m : Part) :
    MovesByTable m (arrive l f (m.assemble l a)) := (arrive_moves l f _).of_start (m.assemble_route l a)

theorem receiveByte_moves (l : Line) (b : Byte) (m : Part) : MovesByTable m (receiveByte l m b) := by
  have hoverrun : (startOverrun l m).route = m.route := by cases l <;> rfl
  unfold receiveByte collect
  repeat' split
  · exact movesByTable_of_route rfl
  · exact movesByTable_of_route rfl
  · exact movesByTable_of_route hoverrun
  · exact movesByTable_of_route (m.assemble_route ..)
  · exact movesByTable_of_route (m.assemble_route ..)
  · exact movesByTable_of_route (m.assemble_route ..)
  · exact arrive_assembled_moves ..
  · exact movesByTable_of_route rfl

theorem silence_moves (l : Line) (m : Part) : MovesByTable m (silence l m) := by
  unfold silence
  repeat' split
  · exact movesByTable_of_route (m.assemble_route ..)
  · exact arrive_assembled_moves ..
  · exact movesByTable_of_route rfl
  · exact arrive_assembled_moves ..
  · exact movesByTable_of_route rfl

theorem releaseHeld_moves (l : Line) (m : Part) : MovesByTable m (releaseHeld l m) := by
  unfold releaseHeld
  repeat' split
  · exact movesByTable_of_route rfl
  · exact (judge_moves ..).of_start (m.onLink_route ..)
  · exact movesByTable_of_route rfl

theorem transmitted_moves (l : Line) (m : Part) : MovesByTable m (transmitted l m) := by
  unfold transmitted
  split
  · exact movesByTable_of_route rfl
  · exact (releaseHeld_moves ..).of_start (m.onLink_route ..)

/-! Commands -/

theorem whileAlive_moves {f : Part → Part} (h : ∀ m, MovesByTable m (f m)) (m : Part) :
    MovesByTable m (whileAlive f m) := by
  unfold whileAlive
  split_ifs
  · exact h m
  · exact movesByTable_of_route rfl

/-- A power-up and a release of RESET leave the route controller, or make a cold start (R194, R195, R197). -/
def RouteKeptOrCold (m n : Part) : Prop := n.route = m.route ∨ n.route = ⟨.empty, 0, false, 0, 0, 0⟩

theorem start_route (s : Start) (m : Part) : RouteKeptOrCold m (m.start s) := by
  cases s
  case cold => exact .inr rfl
  case warm => exact .inl m.warmRestart_route

theorem powerUp_route (kept : Bool) (m : Part) : RouteKeptOrCold m (m.powerUp kept) := by
  unfold Part.powerUp
  dsimp only
  split
  · exact .inl rfl
  · exact start_route _ { m with power := _ }

theorem releaseReset_route (m : Part) : RouteKeptOrCold m m.releaseReset := by
  unfold Part.releaseReset
  dsimp only
  split_ifs
  · split
    · exact start_route _ { m with power := _ }
    · exact .inl rfl
  · exact .inl rfl

/-- A command that is no frame moves the route state by its table, or, a power-up or a release of RESET, may start cold. -/
theorem exec_unframed_moves {c : Instr} (h : frameOfCommand c = none) (s : State) :
    ∃ f : Part → Part, exec c s = act f s ∧ ((∀ m, MovesByTable m (f m)) ∨
      (((∃ kept, c = .powerUp kept) ∨ c = .resetRelease) ∧ ∀ m, RouteKeptOrCold m (f m))) := by
  cases c <;> cases h
  case telegramCompletion =>
    refine ⟨_, rfl, .inl (whileAlive_moves fun m => ?_)⟩
    split
    · exact movesByTable_of_route rfl
    · exact movesByTable_of_route (m.completeTelegram_route _)
  case scanReach p =>
    refine ⟨_, rfl, .inl (whileAlive_moves fun m => ?_)⟩
    split
    · exact movesByTable_of_route rfl
    · exact movesByTable_of_route (m.reachScan_route ..)
  case confirmTimerExpiry n =>
    exact ⟨_, rfl, .inl (whileAlive_moves fun m => movesByTable_of_route (m.expireBatch_route n))⟩
  case lingerExpiry i =>
    exact ⟨_, rfl, .inl (whileAlive_moves fun m => movesByTable_of_route (m.expireLinger_route i))⟩
  case receiveSilence l => exact ⟨_, rfl, .inl (silence_moves l)⟩
  case overrun l b => exact ⟨fun m => receiveByte l m b, rfl, .inl (receiveByte_moves l b)⟩
  case transmitCompletion l => exact ⟨_, rfl, .inl (whileAlive_moves (transmitted_moves l))⟩
  case dockLineRising => exact ⟨_, rfl, .inl fun m => movesByTable_of_route m.dock_route⟩
  case dockLineFalling => exact ⟨_, rfl, .inl fun m => movesByTable_of_route m.undock_route⟩
  case cabPortReset => exact ⟨_, rfl, .inl fun m => movesByTable_of_route m.resetCab_route⟩
  case depotPortReset => exact ⟨_, rfl, .inl fun m => movesByTable_of_route m.resetDepot_route⟩
  case cabPortResetRelease | depotPortResetRelease =>
    exact ⟨_, rfl, .inl fun m => movesByTable_of_route (m.onPort_route ..)⟩
  case endOfSecond => exact ⟨_, rfl, .inl (whileAlive_moves fun _ => .inl rfl)⟩
  case powerLoss => exact ⟨_, rfl, .inl fun _ => .inl rfl⟩
  case reset => exact ⟨_, rfl, .inl fun m => movesByTable_of_route m.assertReset_route⟩
  case powerUp kept => exact ⟨_, rfl, .inr ⟨.inl ⟨kept, rfl⟩, powerUp_route kept⟩⟩
  case resetRelease => exact ⟨_, rfl, .inr ⟨.inr rfl, releaseReset_route⟩⟩

/-- A frame command that is one event moves the route state by its table. -/
theorem frameEvent_moves {l : Line} {f : RxFrame} {m : Part}
    (hone : m.listening l = true → m.betweenFrames l = true ∧ f.fits = true) :
    MovesByTable m (frameEvent l f (judge l f) m) := by
  obtain h | h | h := frameEvent_cases (judge l f) hone <;> rw [h]
  · exact movesByTable_of_route rfl
  · exact judge_moves l f m
  · exact movesByTable_of_route (m.onLink_route ..)

/-- Settles O12: a frame's judging moves the route state by its table alone; of the other commands only a start can
empty the route. -/
theorem routeStateMovesByItsTableAlone : Obligations.RouteStateMovesByItsTableAlone := by
  intro c s t hone h
  cases hc : frameOfCommand c with
  | some lf =>
    obtain ⟨l, f⟩ := lf
    cases (exec_frame_judged hc s).symm.trans h
    exact (frameEvent_moves (hone l f hc)).imp_right .inl
  | none =>
    obtain ⟨f, hf, hmoves | ⟨hstart, hroute⟩⟩ := exec_unframed_moves hc s
    · cases hf.symm.trans h
      exact (hmoves s.part).imp_right .inl
    · cases hf.symm.trans h
      obtain hkept | hcold := hroute s.part
      · exact .inl (congrArg RouteControl.state hkept)
      · exact .inr (.inr ⟨hstart, hcold⟩)

end Sys2Proof.Machine
end

section
/-! SUPPORT. Refused requests: the tests of a request, in the order route state, STALLED, body (R21, R99, R202). -/

namespace Sys2Proof.Machine

/-- The route state is tested first (R21). -/
theorem serve_wrongState {p : HostPort} {r : Request} (hr : r ∈ portRequests p) {m : Part}
    (h : takenIn r m.route.state = false) (tag : Byte) (body : List Byte) :
    serve r p tag body m = m.refuse p tag .wrongState := by
  cases r
  case readStop | readSweep | acknowledgeAlert | readAlert | setPass | readMember | readStrangers | clearEvents
      | setMask | readState => cases h
  case queryMembers => simp_all [takenIn, serve, serveQueryMembers]
  case startRoute | endRoute | openStop | closeStop | skipSweep =>
    cases port_eq_cab hr (by decide)
    simp_all [takenIn, serve, serveStartRoute, serveEndRoute, serveOpenStop, serveCloseStop, serveSkipSweep]
  case beginLoad | loadStop | loadMember | loadProfile | loadClass | finishLoad | clearRoute | beginUpload =>
    cases port_eq_depot hr (by decide)
    simp_all [takenIn, serve, serveBeginLoad, serveLoadStop, serveLoadMember, serveLoadProfile, serveLoadClass,
      serveFinishLoad, serveClearRoute, serveBeginUpload]
  case nextBatch | confirmBatch | rejectBatch | clearTamper =>
    cases port_eq_depot hr (by decide)
    simp_all [takenIn, serve, serveNextBatch, serveConfirmBatch, serveRejectBatch, serveClearTamper, ← or_iff_not_imp_left]

/-- STALLED is tested next, for the requests it holds (R99). -/
theorem serve_stalled {r : Request} (hr : r ∈ heldRequests) {m : Part} (hstate : m.route.state = .running)
    (hheld : m.held = true) (tag : Byte) (body : List Byte) :
    serve r .cab tag body m = m.refuse .cab tag .stalled := by
  simp only [heldRequests, List.mem_cons, List.not_mem_nil, or_false] at hr
  obtain rfl | rfl | rfl | rfl := hr
  · simp [serve, serveOpenStop, hstate, hheld]
  · simp [serve, serveCloseStop, hstate, hheld]
  · simp [serve, serveSkipSweep, hstate, hheld]
  · simp [serve, serveEndRoute, hstate, hheld]

theorem emptyBody_eq_isEmpty (body : List Byte) : emptyBody body = body.isEmpty := by
  cases body <;> rfl

/-- The body is tested after the route state, STALLED and, for QUERY MEMBERS, the engine (R99, R146, R202). -/
theorem serve_badValue {p : HostPort} {r : Request} (hr : r ∈ portRequests p) {m : Part} {body : List Byte}
    (hstate : takenIn r m.route.state = true) (hheld : r ∈ heldRequests → m.held = false)
    (hbusy : r = .queryMembers → m.queryBusy p = false) (hbody : bodyTaken r p body = false) (tag : Byte) :
    serve r p tag body m = m.refuse p tag .badValue := by
  cases r
  case readMember | readStrangers | queryMembers | clearEvents | setMask | readState =>
    simp_all [takenIn, bodyTaken, emptyBody_eq_isEmpty, serve, serveReadMember, serveReadStrangers, serveQueryMembers,
      serveClearEvents, serveSetMask, serveReadState]
  case readStop | readSweep | acknowledgeAlert | readAlert | setPass | startRoute =>
    cases port_eq_cab hr (by decide)
    simp_all [takenIn, bodyTaken, emptyBody_eq_isEmpty, serve, serveReadStop, serveReadSweep, serveAcknowledgeAlert,
      serveReadAlert, serveSetPass, serveStartRoute]
  case endRoute | openStop | closeStop | skipSweep =>
    cases port_eq_cab hr (by decide)
    have hheld := hheld (by decide)
    simp_all [takenIn, bodyTaken, emptyBody_eq_isEmpty, serve, serveEndRoute, serveOpenStop, serveCloseStop,
      serveSkipSweep]
  case beginLoad | loadStop | loadMember | loadProfile | loadClass | finishLoad | clearRoute | beginUpload =>
    cases port_eq_depot hr (by decide)
    simp_all [takenIn, bodyTaken, emptyBody_eq_isEmpty, serve, serveBeginLoad, serveLoadStop, serveLoadMember,
      serveLoadProfile, serveLoadClass, serveFinishLoad, serveClearRoute, serveBeginUpload]
  case nextBatch | confirmBatch | rejectBatch | clearTamper =>
    cases port_eq_depot hr (by decide)
    simp_all [takenIn, bodyTaken, emptyBody_eq_isEmpty, serve, serveNextBatch, serveConfirmBatch, serveRejectBatch,
      serveClearTamper]

/-- A request that STALLED holds is the cab's. -/
theorem mem_cab_of_held {r : Request} (hr : r ∈ heldRequests) : r ∈ portRequests .cab := by
  revert r
  decide

/-- Settles O34: each command serves its request, whose tests come in the order of the three refusals. -/
theorem refusedRequestsChangeNothing : Obligations.RefusedRequestsChangeNothing := by
  refine ⟨fun p r tag body s hr hready hfits hstate => ?_,
    fun r tag body s hr hready hfits hstate hstalled hpass => ?_,
    fun p r tag body s hr hready hfits hstate hheld hbusy hbody => ?_⟩
  · exact request_becomes hr hready hfits (serve_wrongState hr hstate tag body)
  · have hheld : s.part.held = true := by simp [Part.held, hstalled, hpass]
    exact request_becomes (mem_cab_of_held hr) hready hfits (serve_stalled hr hstate hheld tag body)
  · have hfree : r ∈ heldRequests → s.part.held = false := fun hr => by
      obtain h | h := hheld hr <;> simp [Part.held, h]
    have hidle : r = .queryMembers → s.part.queryBusy p = false := fun hr => by
      obtain ⟨hscan, hout⟩ := hbusy hr
      simpa [Part.queryBusy, Link.scanWaits, hscan] using hout
    exact request_becomes hr hready hfits (serve_badValue hr hstate hfree hidle hbody tag)

end Sys2Proof.Machine
end

section
/-! SUPPORT. Loading and the route's start (R22 to R29, R64, R84, R85). -/

namespace Sys2Proof.Machine

/-! BEGIN LOAD and START ROUTE -/

/-- Settles O37: in its route state each of the two requests has no test to fail. -/
theorem loadingBeginsAndRouteStarts : Obligations.LoadingBeginsAndRouteStarts := by
  refine fun tag s => ⟨fun hready hstate => ?_, fun hready hstate => ?_⟩
  · refine request_becomes (p := .depot) (r := .beginLoad) (by decide) hready (by decide) ?_
    simp only [serve, serveBeginLoad, hstate]
    rfl
  · refine request_becomes (p := .cab) (r := .startRoute) (by decide) hready (by decide) ?_
    simp only [serve, serveStartRoute, hstate]
    rfl

/-! LOAD STOP, LOAD PROFILE and LOAD CLASS -/

theorem loadStopOf_length {body : List Byte} {f : LoadStopFields} (h : loadStopOf body = some f) :
    body.length + 2 ≤ 64 := by
  unfold loadStopOf at h
  split_ifs at h with hlength
  omega

theorem loadProfileOf_length {body : List Byte} {e : Nat × Profile} (h : loadProfileOf body = some e) :
    body.length + 2 ≤ 64 := by
  unfold loadProfileOf at h
  split_ifs at h with hlength
  omega

theorem loadClassOf_length {body : List Byte} {e : Nat × ClassRecord} (h : loadClassOf body = some e) :
    body.length + 2 ≤ 64 := by
  unfold loadClassOf at h
  split_ifs at h with hlength
  omega

/-- Settles O38: with the body taken, LOAD STOP's answers are the cases of the stop's record, and LOAD PROFILE and
LOAD CLASS have no test to fail. -/
theorem stopsProfilesAndClassesLoad : Obligations.StopsProfilesAndClassesLoad := by
  refine ⟨fun tag body f s hready hstate hbody => ?_, fun tag body s hready hstate =>
    ⟨fun n p hbody => ?profileLoaded, fun n c hbody => ?classLoaded⟩⟩
  · have becomes : ∀ {m}, serveLoadStop tag body s.part = m → Becomes (.loadStop tag body) s m :=
      request_becomes (p := .depot) (r := .loadStop) (by decide) hready (loadStopOf_length hbody)
    refine ⟨fun hheld => becomes ?_, fun hnew => becomes ?_⟩
    · simp only [serveLoadStop, hstate, hbody, Option.isSome_iff_ne_none.mpr hheld]
      rfl
    · simp only [serveLoadStop, hstate, hbody, hnew]
      rfl
  case profileLoaded =>
    refine request_becomes (p := .depot) (r := .loadProfile) (by decide) hready (loadProfileOf_length hbody) ?_
    simp only [serve, serveLoadProfile, hstate, hbody]
    rfl
  case classLoaded =>
    refine request_becomes (p := .depot) (r := .loadClass) (by decide) hready (loadClassOf_length hbody) ?_
    simp only [serve, serveLoadClass, hstate, hbody]
    rfl

/-! FINISH LOAD -/

/-- The first element that a test accepts. -/
theorem find?_append_cons {α : Type} {test : α → Bool} {before after : List α} {x : α}
    (hbefore : ∀ e ∈ before, test e = false) (hx : test x = true) :
    (before ++ x :: after).find? test = some x := by
  rw [List.find?_append, List.find?_eq_none.mpr (by simpa using hbefore)]
  simp [hx]

theorem loadGap_noStop {m : Part} (h : m.route.stopsLoaded = 0) : m.loadGap = some .noStop := by
  simp [Part.loadGap, h]

/-- Check 2 names the first member, in position order, whose stop is not loaded (R27). -/
theorem loadGap_missingStop {m : Part} (hstops : m.route.stopsLoaded ≠ 0) {before after : List (Nat × Member)}
    {p : Nat} {r : Member} (hways : m.dir.ways = before ++ (p, r) :: after) (hmissing : m.stop r.stop = none)
    (hbefore : ∀ e ∈ before, m.stop e.2.stop ≠ none) : m.loadGap = some (.missingStop p r.key r.stop) := by
  have hfirst : m.dir.ways.find? (fun e => (m.stop e.2.stop).isNone) = some (p, r) := by
    rw [hways]
    exact find?_append_cons (by simpa [Option.isSome_iff_ne_none] using hbefore) (by simpa using hmissing)
  simp [Part.loadGap, hstops, hfirst]

/-- With every stop loaded, check 3 goes through the members in position order (R27). -/
theorem loadGap_of_stops {m : Part} (hstops : m.route.stopsLoaded ≠ 0)
    (hloaded : ∀ e ∈ m.dir.ways, m.stop e.2.stop ≠ none) :
    m.loadGap = (m.dir.ways.find? (fun e => !inSet m.route.profilesLoaded e.2.profile)).map
      (fun e => .missingProfile e.1 e.2.key e.2.profile) := by
  have hnone : m.dir.ways.find? (fun e => (m.stop e.2.stop).isNone) = none :=
    List.find?_eq_none.mpr (by simpa using hloaded)
  simp [Part.loadGap, hstops, hnone]

theorem loadGap_missingProfile {m : Part} (hstops : m.route.stopsLoaded ≠ 0) {before after : List (Nat × Member)}
    {p : Nat} {r : Member} (hways : m.dir.ways = before ++ (p, r) :: after)
    (hloaded : ∀ e ∈ m.dir.ways, m.stop e.2.stop ≠ none)
    (hmissing : m.route.profilesLoaded.getLsbD r.profile = false)
    (hbefore : ∀ e ∈ before, m.route.profilesLoaded.getLsbD e.2.profile = true) :
    m.loadGap = some (.missingProfile p r.key r.profile) := by
  rw [loadGap_of_stops hstops hloaded, hways,
    find?_append_cons (by simpa [inSet] using hbefore) (by simpa [inSet] using hmissing)]
  rfl

theorem loadGap_eq_none {m : Part} (hstops : m.route.stopsLoaded ≠ 0)
    (hbook : ∀ e ∈ m.dir.ways, m.stop e.2.stop ≠ none ∧ m.route.profilesLoaded.getLsbD e.2.profile = true) :
    m.loadGap = none := by
  rw [loadGap_of_stops hstops fun e he => (hbook e he).1, Option.map_eq_none_iff, List.find?_eq_none]
  simpa [inSet] using fun p r he => (hbook (p, r) he).2

/-- Where the marks are those of the loaded classes, FINISH LOAD leaves these and makes the others OFF (R28, R85). -/
theorem fillClasses_classes {m : Part}
    (hmarks : ∀ n, n < 4 → (m.route.classesLoaded.getLsbD n = true ↔ Table.find m.tamper.classes n ≠ none)) :
    ∀ n, n < 4 → Table.find m.fillClasses.tamper.classes n = some ((Table.find m.tamper.classes n).getD .off) := by
  intro n hn
  have hread : Table.find m.fillClasses.tamper.classes n =
      some (if inSet m.route.classesLoaded n then m.tamper.classOf n else .off) := by
    interval_cases n <;> rfl
  rw [hread, inSet, Tamper.classOf]
  cases hfind : Table.find m.tamper.classes n with
  | none => simp
  | some c => simp [(hmarks n hn).mpr (by simp [hfind])]

/-- Every stop's member count is the number of valid members that carry its number (R28). -/
theorem countMembers_eq (m : Part) : m.countMembers = { m with stops := { m.stops with
    records := Table.mapValues (fun r => { r with
      members := m.dir.ways.countP (fun e => e.2.stop == r.number) }) m.stops.records } } := by
  simp only [Part.countMembers, Part.onStops, Directory.ofStop, List.countP_eq_length_filter]

theorem serveFinishLoad_of_gap {m : Part} (hstate : m.route.state = .loading) {gap : LoadGap} (h : m.loadGap = some gap)
    (tag : Byte) : serveFinishLoad tag [] m = m.answer .depot tag .incomplete (.incomplete gap) := by
  simp only [serveFinishLoad, hstate, h]
  rfl

theorem serveFinishLoad_of_book {m : Part} (hstate : m.route.state = .loading) (h : m.loadGap = none) (tag : Byte) :
    serveFinishLoad tag [] m = (m.countMembers.fillClasses.moveRoute .ready).answer .depot tag .ok .none := by
  simp only [serveFinishLoad, hstate, h]
  rfl

/-- Settles O40: FINISH LOAD answers by the first check that fails; a book that passes is counted and filled. -/
theorem finishLoadChecksTheBook : Obligations.FinishLoadChecksTheBook := by
  have becomes : ∀ {tag s m}, Ready s .depot → serveFinishLoad tag [] s.part = m → Becomes (.finishLoad tag []) s m :=
    fun hready => request_becomes (p := .depot) (r := .finishLoad) (by decide) hready (by decide)
  have incomplete : ∀ {tag s gap}, Ready s .depot → s.part.route.state = .loading → s.part.loadGap = some gap →
      Becomes (.finishLoad tag []) s (s.part.answer .depot tag .incomplete (.incomplete gap)) :=
    fun hready hstate hgap => becomes hready (serveFinishLoad_of_gap hstate hgap _)
  refine ⟨fun tag s hready hstate => ⟨fun hnone => incomplete hready hstate (loadGap_noStop hnone), fun hstops =>
    ⟨fun before p r after hways hmissing hbefore => incomplete hready hstate ?_,
      fun before p r after hways hloaded hmissing hbefore => incomplete hready hstate ?_⟩⟩,
    fun tag s hready hstate hstops hbook hmarks =>
      ⟨s.part.fillClasses.tamper.classes, becomes hready ?_, fillClasses_classes hmarks⟩⟩
  · exact loadGap_missingStop hstops hways hmissing hbefore
  · exact loadGap_missingProfile hstops hways hloaded hmissing hbefore
  · rw [serveFinishLoad_of_book hstate (loadGap_eq_none hstops hbook), countMembers_eq]
    rfl

end Sys2Proof.Machine
end

section
/-! SUPPORT. The end of a second: the route clock and the running timers (R30, R118, R167). -/

namespace Sys2Proof.Machine

/-- The running clock rises by 1 and holds at its greatest value (R30). -/
theorem endSecond_clock (m : Part) : m.endSecond.route.clock.toNat =
    if m.route.clockRunning then min (m.route.clock.toNat + 1) 4294967295 else m.route.clock.toNat := by
  cases hrunning : m.route.clockRunning
  · simp [Part.endSecond, hrunning]
  · by_cases hfull : m.route.clock = BitVec.allOnes 32
    · simp [Part.endSecond, hfull]
    · have hbelow : m.route.clock.toNat ≠ 4294967295 := fun h => hfull (BitVec.eq_of_toNat_eq (by simpa using h))
      have hrange := m.route.clock.isLt
      simp only [Part.endSecond, hrunning, hfull, ne_eq, not_false_eq_true, and_self, if_true, BitVec.toNat_add]
      simp
      omega

/-- Each slot counts its own timer down (R118). -/
theorem endSecond_slot (m : Part) (i : Fin 4) : m.endSecond.stops.slots[i] = m.stops.slots[i].tick := by
  fin_cases i <;> rfl

/-- Settles O59: the clock and the timers count while the part runs. -/
theorem secondsCount : Obligations.SecondsCount := by
  refine fun s => ⟨fun hdead => act_not_alive hdead Part.endSecond, fun halive =>
    ⟨s.part.endSecond.route.clock, s.part.endSecond.stops.slots, ?_, ?_, fun i => ?_⟩⟩
  · exact act_alive halive Part.endSecond
  · exact endSecond_clock s.part
  · rw [endSecond_slot]
    exact ⟨rfl, rfl⟩

end Sys2Proof.Machine
end

section
/-! SUPPORT. CLEAR ROUTE (R37, R38): the tables it empties, and the answers of the scans it ends (R153, R182). -/

namespace Sys2Proof.Machine

/-- The responses join the tail of the port's output queue as its scan ends (R153, R182). -/
def PortState.endedWith (two : List Response) (k : PortState) : PortState :=
  { k with scan := none, link := { k.link with out := k.link.out ++ two } }

theorem Part.endScan_of_none {m : Part} {p : HostPort} (h : (m.port p).scan = none) : m.endScan p = m := by
  simp [Part.endScan, h]

theorem Part.endScan_of_some {m : Part} {p : HostPort} {c : Scan} (h : (m.port p).scan = some c) :
    m.endScan p = m.onPort p (PortState.endedWith [⟨.ended, c.tag, .none, true⟩]) := by
  simp only [Part.endScan, h]
  cases p <;> rfl

/-- Ending one port's scan leaves the other port. -/
theorem Part.port_endScan_of_ne {p q : HostPort} (h : p ≠ q) (m : Part) : (m.endScan p).port q = m.port q := by
  cases hscan : (m.port p).scan with
  | none => rw [Part.endScan_of_none hscan]
  | some c => rw [Part.endScan_of_some hscan, Part.port_onPort_of_ne _ _ h]

theorem Part.endScan_choices (p : HostPort) (m : Part) : (m.endScan p).choices = m.choices := by
  unfold Part.endScan
  split <;> simp

theorem Part.answerClear_of_none {m : Part} (h : m.ports.depot.scan = none) (tag : Byte) :
    m.answerClear tag = (m.endScan .cab).answer .depot tag .ok .none := by
  simp [Part.answerClear, Part.port, h]

theorem Part.endScan_answer {m : Part} {c : Scan} (h : m.ports.depot.scan = some c) (tag : Byte) :
    (m.endScan .depot).answer .depot tag .ok .none =
      m.onPort .depot (PortState.endedWith [⟨.ended, c.tag, .none, true⟩, ⟨.ok, tag, .none, false⟩]) := by
  rw [Part.endScan_of_some (p := .depot) h]
  simp [Part.answer, Part.send, Part.onLink, Part.onPort, PortState.endedWith, portLine]

theorem Part.answer_endScan {m : Part} {c : Scan} (h : m.ports.depot.scan = some c) (tag : Byte) :
    (m.answer .depot tag .ok .none).endScan .depot =
      m.onPort .depot (PortState.endedWith [⟨.ok, tag, .none, false⟩, ⟨.ended, c.tag, .none, true⟩]) := by
  rw [Part.endScan_of_some (m := m.answer .depot tag .ok .none) (p := .depot) h]
  simp [Part.answer, Part.send, Part.onLink, Part.onPort, PortState.endedWith, portLine]

/-- ENDED and OK go to the depot in one order or the other, and the choice is counted (R182; log 12). -/
theorem Part.answerClear_of_some {m : Part} {c : Scan} (h : m.ports.depot.scan = some c) (tag : Byte) :
    ∃ two : List Response, (two = [⟨.ended, c.tag, .none, true⟩, ⟨.ok, tag, .none, false⟩] ∨
        two = [⟨.ok, tag, .none, false⟩, ⟨.ended, c.tag, .none, true⟩]) ∧
      m.answerClear tag =
        { (m.endScan .cab).onPort .depot (PortState.endedWith two) with choices := m.choices + 1 } := by
  have hdepot : ((m.endScan .cab).port .depot).scan = some c := by
    rw [Part.port_endScan_of_ne (by decide)]
    exact h
  have hchoices := m.endScan_choices .cab
  unfold Part.answerClear
  simp only [Part.port, h, hchoices]
  split
  · exact ⟨_, .inl rfl, Part.endScan_answer (m := { m.endScan .cab with choices := m.choices + 1 }) hdepot tag⟩
  · exact ⟨_, .inr rfl, Part.answer_endScan (m := { m.endScan .cab with choices := m.choices + 1 }) hdepot tag⟩

theorem discardOf_flag (discard : Bool) : discardOf (be8 (flagCode discard)) = some discard := by
  cases discard <;> rfl

theorem flag_fits (discard : Bool) : (be8 (flagCode discard)).length + 2 ≤ 64 := by
  simp [be8]

theorem needsDiscard_iff (q : RouteState) :
    needsDiscard q = true ↔ q = .running ∨ q = .returned ∨ q = .uploading := by
  cases q <;> simp [needsDiscard]

theorem serveClearRoute_refused {m : Part} {discard : Bool} (hempty : m.route.state ≠ .empty)
    (hdiscard : discard = false) (hneeds : needsDiscard m.route.state = true) (tag : Byte) :
    serveClearRoute tag (be8 (flagCode discard)) m = m.refuse .depot tag .wrongState := by
  simp only [serveClearRoute, hempty, discardOf_flag, hdiscard, hneeds]
  rfl

theorem serveClearRoute_taken {m : Part} {discard : Bool} (hempty : m.route.state ≠ .empty)
    (h : discard = true ∨ needsDiscard m.route.state = false) (tag : Byte) :
    serveClearRoute tag (be8 (flagCode discard)) m = (m.emptyRoute.moveRoute .empty).answerClear tag := by
  have htaken : (!discard && needsDiscard m.route.state) = false := by
    obtain h | h := h <;> simp [h]
  simp only [serveClearRoute, hempty, discardOf_flag, htaken]
  rfl

/-- Settles O42: without DISCARD the route state is tested; taken, the tables are emptied and the scans answered. -/
theorem clearRouteEmptiesTheRoute : Obligations.ClearRouteEmptiesTheRoute := by
  intro tag discard s hready hempty q body cleared cabEnded
  have becomes : ∀ {m}, serveClearRoute tag body s.part = m → Becomes (.clearRoute tag body) s m :=
    request_becomes (p := .depot) (r := .clearRoute) (by decide) hready (flag_fits discard)
  have hcleared : s.part.emptyRoute.moveRoute .empty = cleared := rfl
  have hcab : cleared.endScan .cab = cabEnded := by
    cases hscan : s.part.ports.cab.scan with
    | none => simpa only [cabEnded, hscan] using Part.endScan_of_none (m := cleared) (p := .cab) hscan
    | some c =>
      simp only [cabEnded, hscan]
      exact Part.endScan_of_some (m := cleared) (p := .cab) hscan
  refine ⟨fun hno hq => becomes ?_, fun htaken => ?_⟩
  · exact serveClearRoute_refused hempty hno ((needsDiscard_iff q).mpr hq) tag
  · have htaken : discard = true ∨ needsDiscard q = false := htaken.imp_right fun hq => by
      obtain h | h | h := hq <;> rw [h] <;> rfl
    have hserved := serveClearRoute_taken hempty htaken tag
    rw [hcleared] at hserved
    rw [← hcab]
    refine ⟨fun hscan => becomes ?_, fun c hscan => ?_⟩
    · exact hserved.trans (Part.answerClear_of_none (m := cleared) hscan tag)
    · obtain ⟨two, htwo, h⟩ := Part.answerClear_of_some (m := cleared) hscan tag
      exact ⟨two, htwo, becomes (hserved.trans h)⟩

end Sys2Proof.Machine
end

section
/-! SUPPORT. Orderings: the list in the order given, and the key order of R1 as an order of numbers. -/

namespace Sys2Proof.Machine

section Orderings

variable {α β : Type} {before : α → α → Bool}

theorem placeBy_perm (x : α) (l : List α) : (placeBy before x l).Perm (x :: l) := by
  induction l with
  | nil => exact .refl _
  | cons y rest ih =>
    unfold placeBy
    split_ifs
    · exact (ih.cons y).trans (.swap ..)
    · exact .refl _

theorem orderBy_perm (l : List α) : (orderBy before l).Perm l := by
  induction l with
  | nil => exact .refl _
  | cons x rest ih => exact (placeBy_perm ..).trans (ih.cons x)

/-- An asymmetric order whose ties are transitive puts every list into order. -/
theorem orderBy_pairwise (hasymm : ∀ x y, before x y = true → before y x = false)
    (htrans : ∀ x y z, before y x = false → before z y = false → before z x = false) (l : List α) :
    (orderBy before l).Pairwise (fun x y => before y x = false) := by
  have placed : ∀ (x : α) (l : List α), l.Pairwise (fun x y => before y x = false) →
      (placeBy before x l).Pairwise (fun x y => before y x = false) := by
    intro x l hl
    induction l with
    | nil => exact List.pairwise_singleton ..
    | cons y rest ih =>
      obtain ⟨hhead, hrest⟩ := List.pairwise_cons.mp hl
      unfold placeBy
      split_ifs with hy
      · refine List.pairwise_cons.mpr ⟨fun z hz => ?_, ih hrest⟩
        obtain rfl | hz := mem_placeBy.mp hz
        · exact hasymm _ _ hy
        · exact hhead z hz
      · have hy : before y x = false := by simpa using hy
        refine List.pairwise_cons.mpr ⟨fun z hz => ?_, hl⟩
        obtain rfl | hz := List.mem_cons.mp hz
        · exact hy
        · exact htrans x y z hy (hhead z hz)
  induction l with
  | nil => exact .nil
  | cons x rest ih => exact placed x _ ih

/-- A change of the elements that keeps their order keeps the places. -/
theorem orderBy_map {g : α → β} {before' : β → β → Bool} (h : ∀ x y, before' (g x) (g y) = before x y) (l : List α) :
    orderBy before' (l.map g) = (orderBy before l).map g := by
  have placed : ∀ (x : α) (l : List α), placeBy before' (g x) (l.map g) = (placeBy before x l).map g := by
    intro x l
    induction l with
    | nil => rfl
    | cons y rest ih =>
      simp only [List.map_cons, placeBy, h]
      split_ifs
      · rw [ih]
        rfl
      · rfl
  induction l with
  | nil => rfl
  | cons x rest ih => rw [List.map_cons, orderBy, ih, placed, orderBy]

end Orderings

/-- The place of a key in the key order, by meter number and then by kind number (R1). -/
def Key.rank (k : Key) : Nat := k.number.toNat * 5 + kindCode k.kind

theorem Key.before_iff (a b : Key) : a.before b = true ↔ a.rank < b.rank := by
  have hkind : ∀ k : Kind, kindCode k < 5 := by intro k; cases k <;> decide
  have ha := hkind a.kind
  have hb := hkind b.kind
  simp only [Key.before, Key.rank, Bool.or_eq_true, Bool.and_eq_true, decide_eq_true_eq, beq_iff_eq, BitVec.lt_def,
    ← BitVec.toNat_inj]
  omega

end Sys2Proof.Machine
end

section
/-! SUPPORT. Deferred entries (R94 to R97): members reported one after another are so many alert entries offered, and
their deferred-pending sets emptied. -/

namespace Sys2Proof.Machine

/-! Alert entries offered one after another -/

theorem ite_or_ite {w : Nat} (P Q : Prop) [Decidable P] [Decidable Q] (e : BitVec w) :
    (if P then e else 0) ||| (if Q then e else 0) = if P ∨ Q then e else 0 := by
  by_cases hP : P <;> by_cases hQ : Q <;> simp [hP, hQ]

/-- A queue cut to its places before more entries join it loses no other entry (R96). -/
theorem take_append_take {α : Type} (n : Nat) (l k : List α) : (l.take n ++ k).take n = (l ++ k).take n := by
  rw [List.take_append, List.take_append, List.take_take, min_self, List.length_take]
  congr 2
  omega

/-- The events of alert entries offered one after another: of queuing, of loss, and of STALLED's beginning (R96, R97). -/
def Part.alertEvents (due : List Alert) (m : Part) : EventSet :=
  (if due ≠ [] ∧ m.tamper.alerts.length < 32 then evAlertQueued else 0) |||
    ((if 32 < m.tamper.alerts.length + due.length then evAlertOverflow else 0) |||
      if due.any (fun a => meets a.classes m.tamper.stallClasses) ∧ m.tamper.stalled = false then evStallBegan else 0)

theorem Part.withAlerts_eq (due : List Alert) (m : Part) : Part.withAlerts due m = Part.setShared (m.alertEvents due)
    { m with tamper := { m.tamper with
        alerts := (m.tamper.alerts ++ due).take 32
        stalled := m.tamper.stalled || due.any (fun a => meets a.classes m.tamper.stallClasses) } } := by
  simp only [Part.withAlerts, Part.alertEvents, Part.setShared, BitVec.or_assoc]

theorem Part.withAlerts_length (due : List Alert) (m : Part) : (Part.withAlerts due m).tamper.alerts.length ≤ 32 :=
  List.length_take_le ..

theorem Part.withAlerts_nil {m : Part} (h : m.tamper.alerts.length ≤ 32) : Part.withAlerts [] m = m := by
  simp [Part.withAlerts, List.take_of_length_le h, Nat.not_lt.mpr h]

theorem Part.alertEvents_append (a b : List Alert) {m : Part} (h : m.tamper.alerts.length ≤ 32) :
    m.alertEvents (a ++ b) = m.alertEvents a ||| (Part.withAlerts a m).alertEvents b := by
  have hlength : (Part.withAlerts a m).tamper.alerts.length = min 32 (m.tamper.alerts.length + a.length) := by
    simp [Part.withAlerts]
  have hqueued : (a ≠ [] ∧ m.tamper.alerts.length < 32) ∨
      (b ≠ [] ∧ min 32 (m.tamper.alerts.length + a.length) < 32) ↔ a ++ b ≠ [] ∧ m.tamper.alerts.length < 32 := by
    by_cases ha : a = []
    · simp [ha]
    · have hroom : min 32 (m.tamper.alerts.length + a.length) < 32 → m.tamper.alerts.length < 32 := by omega
      simpa [ha] using fun _ => hroom
  have hlost : 32 < m.tamper.alerts.length + a.length ∨
      32 < min 32 (m.tamper.alerts.length + a.length) + b.length ↔ 32 < m.tamper.alerts.length + (a ++ b).length := by
    rw [List.length_append]
    omega
  have hbegan : ∀ x y z : Bool, (x = true ∧ z = false) ∨ (y = true ∧ (z || x) = false) ↔ (x || y) = true ∧ z = false := by
    decide
  have hstalled : (Part.withAlerts a m).tamper.stalled =
      (m.tamper.stalled || a.any (fun e => meets e.classes m.tamper.stallClasses)) := rfl
  have hclasses : (Part.withAlerts a m).tamper.stallClasses = m.tamper.stallClasses := rfl
  have hrearrange : ∀ x y z x' y' z' : EventSet, (x ||| (y ||| z)) ||| (x' ||| (y' ||| z')) =
      (x ||| x') ||| ((y ||| y') ||| (z ||| z')) := by
    intros
    ac_rfl
  simp only [Part.alertEvents, hrearrange, ite_or_ite, hlength, hstalled, hclasses, List.any_append, hqueued, hlost,
    hbegan]

/-- Entries offered one after another may be offered in two parts. -/
theorem Part.withAlerts_append (a b : List Alert) {m : Part} (h : m.tamper.alerts.length ≤ 32) :
    Part.withAlerts (a ++ b) m = Part.withAlerts b (Part.withAlerts a m) := by
  rw [Part.withAlerts_eq b, Part.withAlerts_eq (a ++ b), Part.alertEvents_append a b h]
  simp only [Part.withAlerts_eq a, Part.setShared, take_append_take, List.append_assoc, List.any_append, Bool.or_assoc,
    BitVec.or_assoc]
  rfl

/-- One entry offered (R96, R97). -/
theorem Part.offerAlert_eq (a : Alert) {m : Part} (h : m.tamper.alerts.length ≤ 32) :
    m.offerAlert a = Part.withAlerts [a] m := by
  have hqueue : (m.tamper.alerts ++ [a]).take 32 =
      if m.tamper.alerts.length < 32 then m.tamper.alerts ++ [a] else m.tamper.alerts := by
    split_ifs with hroom
    · exact List.take_of_length_le (by simpa using hroom)
    · rw [List.take_append_of_le_length (by omega), List.take_of_length_le h]
  have hlost : 32 < m.tamper.alerts.length + 1 ↔ ¬ m.tamper.alerts.length < 32 := by omega
  obtain ⟨_, _, _, ⟨classes, alerts, stalled, pass⟩⟩ := m
  dsimp only at h hqueue hlost
  by_cases hroom : alerts.length < 32 <;>
    cases hmeets : meets a.classes (Tamper.mk classes alerts stalled pass).stallClasses <;> cases stalled <;>
    simp [Part.offerAlert, Part.withAlerts, Part.setShared, Config.alertPlaces, hqueue, hlost, hroom, hmeets,
      BitVec.or_assoc]

/-! Members reported one after another -/

/-- A member whose deferred entry has been produced (R94, R95). -/
def Member.reported (r : Member) : Member := { r with deferred := 0 }

/-- The deferred-pending sets of the members at these places emptied. -/
def emptyDeferred (due : List (Nat × Member)) (ways : Table Member) : Table Member :=
  due.foldl (fun t e => Table.modify e.1 Member.reported t) ways

theorem find_emptyDeferred (due : List (Nat × Member)) (ways : Table Member) (p : Nat) :
    Table.find (emptyDeferred due ways) p =
      (Table.find ways p).map (fun r => if p ∈ due.map Prod.fst then r.reported else r) := by
  induction due generalizing ways with
  | nil => simp [emptyDeferred]
  | cons e rest ih =>
    refine (ih _).trans ?_
    rw [Table.find_modify]
    have hmem : p ∈ (e :: rest).map Prod.fst ↔ p = e.1 ∨ p ∈ rest.map Prod.fst := List.mem_cons
    have htwice : ∀ r : Member, r.reported.reported = r.reported := fun _ => rfl
    by_cases he : p = e.1
    · have hin := hmem.mpr (.inl he)
      simp only [if_pos he, Option.map_map, Function.comp_def, hin, if_true, htwice, ite_self]
    · simp only [hmem, he, false_or, if_false]

/-- Members reported one after another: their deferred entries are offered, and their deferred-pending sets emptied. -/
theorem reportEach_eq (due : List (Nat × Member)) {m : Part} (h : m.tamper.alerts.length ≤ 32) :
    due.foldl Part.reportDeferred m = Part.withAlerts (due.map (fun e => m.deferredAlert e.2))
      { m with dir := { m.dir with ways := emptyDeferred due m.dir.ways } } := by
  induction due generalizing m with
  | nil => exact (Part.withAlerts_nil h).symm
  | cons e rest ih =>
    have hhead : m.reportDeferred e = Part.withAlerts [m.deferredAlert e.2] (m.onMember e.1 Member.reported) :=
      Part.offerAlert_eq _ h
    calc (e :: rest).foldl Part.reportDeferred m
      _ = rest.foldl Part.reportDeferred (Part.withAlerts [m.deferredAlert e.2] (m.onMember e.1 Member.reported)) :=
        congrArg (rest.foldl Part.reportDeferred) hhead
      _ = Part.withAlerts (rest.map (fun e => m.deferredAlert e.2)) (Part.withAlerts [m.deferredAlert e.2]
            { m with dir := { m.dir with ways := emptyDeferred (e :: rest) m.dir.ways } }) :=
        ih (Part.withAlerts_length ..)
      _ = Part.withAlerts ((e :: rest).map (fun e => m.deferredAlert e.2))
            { m with dir := { m.dir with ways := emptyDeferred (e :: rest) m.dir.ways } } :=
        (Part.withAlerts_append (m := { m with dir := { m.dir with ways := emptyDeferred (e :: rest) m.dir.ways } })
          [m.deferredAlert e.2] _ h).symm

end Sys2Proof.Machine
end

section
/-! SUPPORT. END ROUTE (R32, R33): the members given up, and the deferred entries of all of them (R95). -/

namespace Sys2Proof.Machine

/-- The order of the deferred entries of a route's end: ascending stop number, and within a stop key order (R95). -/
def beforeInStops (a b : Nat × Member) : Bool :=
  decide (a.2.stop < b.2.stop) || (a.2.stop == b.2.stop && a.2.key.before b.2.key)

theorem beforeInStops_iff (a b : Nat × Member) : beforeInStops a b = true ↔
    a.2.stop < b.2.stop ∨ (a.2.stop = b.2.stop ∧ a.2.key.rank < b.2.key.rank) := by
  simp [beforeInStops, Key.before_iff]

/-- The members whose deferred entries a route's end produces, in their order (R95). -/
def Directory.deferredMembers (d : Directory) : List (Nat × Member) :=
  orderBy beforeInStops (d.ways.filter (fun e => e.2.deferred != 0))

theorem Directory.deferredMembers_perm (d : Directory) :
    d.deferredMembers.Perm (d.ways.filter (fun e => e.2.deferred != 0)) := orderBy_perm _

theorem Directory.deferredMembers_pairwise (d : Directory) : d.deferredMembers.Pairwise (fun a b =>
    a.2.stop < b.2.stop ∨ (a.2.stop = b.2.stop ∧ b.2.key.before a.2.key = false)) := by
  have hordered : d.deferredMembers.Pairwise (fun a b => beforeInStops b a = false) := by
    refine orderBy_pairwise (fun x y => ?_) (fun x y z => ?_) _ <;>
      simp only [← Bool.not_eq_true, beforeInStops_iff] <;> omega
  refine hordered.imp fun {a b} h => ?_
  simp only [← Bool.not_eq_true, beforeInStops_iff, Key.before_iff] at h ⊢
  omega

/-- A member at the end of the route: MISSED unless READ (R12). -/
def Member.givenUp (r : Member) : Member := if r.readState = .read then r else { r with readState := .missed }

theorem Member.givenUp_eq (r : Member) :
    r.givenUp = { r with readState := if r.readState = .read then .read else .missed } := by
  unfold Member.givenUp
  split_ifs with h
  · rw [← h]
  · rfl

theorem Directory.giveUp_ways (d : Directory) : d.giveUp.ways = Table.mapValues Member.givenUp d.ways := rfl

/-- Giving members up changes neither the deferred-pending sets nor the order of their entries. -/
theorem Directory.giveUp_deferredMembers (d : Directory) :
    d.giveUp.deferredMembers = d.deferredMembers.map (fun e => (e.1, e.2.givenUp)) := by
  have hfilter : d.giveUp.ways.filter (fun e => e.2.deferred != 0) =
      (d.ways.filter (fun e => e.2.deferred != 0)).map (fun e => (e.1, e.2.givenUp)) := by
    rw [Directory.giveUp_ways, Table.mapValues, List.filter_map]
    simp only [Function.comp_def, Member.givenUp_eq]
  have hbefore : ∀ a b : Nat × Member,
      beforeInStops (a.1, a.2.givenUp) (b.1, b.2.givenUp) = beforeInStops a b := by
    simp [beforeInStops, Member.givenUp_eq]
  unfold Directory.deferredMembers
  rw [hfilter]
  exact orderBy_map hbefore _

/-- Every deferred-pending set is empty once the route's entries have been produced (R95). -/
theorem find_emptyDeferred_all (d : Directory) (p : Nat) :
    Table.find (emptyDeferred d.deferredMembers d.ways) p = (Table.find d.ways p).map Member.reported := by
  rw [find_emptyDeferred]
  cases hfind : Table.find d.ways p with
  | none => rfl
  | some r =>
    simp only [Option.map_some]
    split_ifs with hdue
    · rfl
    · have hzero : r.deferred = 0 := by
        by_contra hne
        refine hdue (List.mem_map_of_mem (f := Prod.fst) (a := (p, r)) ?_)
        exact mem_orderBy.mpr (List.mem_filter.mpr ⟨Table.mem_of_find hfind, by simpa using hne⟩)
      simp [Member.reported, ← hzero]

/-- The effects of a route's end on every block (R33, R95, R127). -/
theorem endRoute_eq {m : Part} (h : m.tamper.alerts.length ≤ 32) :
    m.endRoute = Part.withAlerts (m.dir.deferredMembers.map (fun e => m.deferredAlert e.2)) { m with
      intake := m.intake.void
      stops := m.stops.endRoute
      dir := { m.dir.giveUp with ways := emptyDeferred m.dir.giveUp.deferredMembers m.dir.giveUp.ways } } := by
  have hentries : ∀ e : Nat × Member, Part.deferredAlert
      { m with intake := m.intake.void, stops := m.stops.endRoute, dir := m.dir.giveUp } e.2.givenUp =
      m.deferredAlert e.2 := by
    intro e
    rw [Member.givenUp_eq]
    rfl
  refine (reportEach_eq m.dir.giveUp.deferredMembers
    (m := { m with intake := m.intake.void, stops := m.stops.endRoute, dir := m.dir.giveUp }) h).trans ?_
  rw [Directory.giveUp_deferredMembers, List.map_map]
  simp only [Function.comp_def, hentries]

theorem serveEndRoute_taken {m : Part} (hstate : m.route.state = .running) (hheld : m.held = false) (tag : Byte) :
    serveEndRoute tag [] m = (m.endRoute.moveRoute .returned).answer .cab tag .ok .none := by
  simp only [serveEndRoute, hstate, hheld]
  rfl

/-- Settles O41: the members given up are those whose deferred entries are due, in the same order. -/
theorem endRouteReturnsTheRoute : Obligations.EndRouteReturnsTheRoute := by
  intro tag s hready hstate hfree halerts _
  have hheld : s.part.held = false := by
    obtain h | h := hfree <;> simp [Part.held, h]
  refine ⟨emptyDeferred s.part.dir.giveUp.deferredMembers s.part.dir.giveUp.ways, s.part.dir.deferredMembers,
    fun p => ?_, s.part.dir.deferredMembers_perm, s.part.dir.deferredMembers_pairwise, ?_⟩
  · rw [find_emptyDeferred_all, Directory.giveUp_ways, Table.find_mapValues, Option.map_map]
    congr 1
    funext r
    rw [Function.comp_apply, Member.givenUp_eq]
    rfl
  · refine request_becomes (p := .cab) (r := .endRoute) (by decide) hready (by decide) ?_
    refine (serveEndRoute_taken hstate hheld tag).trans ?_
    rw [endRoute_eq halerts]
    rfl

end Sys2Proof.Machine
end

section
/-! SUPPORT. What dealing with members, alert entries and upload items leaves as it was: the route controller, the intake engine
and the output queues; and the lists it lengthens keep within their places (R96, R115). -/

namespace Sys2Proof.Machine

/-! Output queues and scans -/

/-- The parts have the same output queues and the same scans in flight. -/
structure SameQueues (m n : Part) : Prop where
  out : ∀ l, (n.link l).out = (m.link l).out
  scan : ∀ p, (n.port p).scan = (m.port p).scan

namespace SameQueues

theorem trans {m n k : Part} (h : SameQueues m n) (h' : SameQueues n k) : SameQueues m k where
  out l := (h'.out l).trans (h.out l)
  scan p := (h'.scan p).trans (h.scan p)

theorem of_ports {m n : Part} (h : n.ports = m.ports := by rfl) : SameQueues m n where
  out l := by cases l <;> simp [Part.link, h]
  scan p := by cases p <;> simp [Part.port, h]

theorem refl (m : Part) : SameQueues m m := of_ports

theorem onPort {f : PortState → PortState} (hout : ∀ q, (f q).link.out = q.link.out) (hscan : ∀ q, (f q).scan = q.scan)
    (p : HostPort) (m : Part) : SameQueues m (m.onPort p f) where
  out l := by cases p <;> cases l <;> simp [Part.onPort, Part.link, hout]
  scan q := by cases p <;> cases q <;> simp [Part.onPort, Part.port, hscan]

theorem onLink {f : Link → Link} (h : ∀ k, (f k).out = k.out) (l : Line) (m : Part) : SameQueues m (m.onLink l f) where
  out k := by cases l <;> cases k <;> simp [Part.onLink, Part.onPort, Part.link, h]
  scan p := by cases l <;> cases p <;> rfl

theorem setShared (e : EventSet) (m : Part) : SameQueues m (m.setShared e) where
  out l := by cases l <;> rfl
  scan p := by cases p <;> rfl

theorem setLocal (p : HostPort) (e : EventSet) (m : Part) : SameQueues m (m.setLocal p e) :=
  onPort (f := fun q => { q with locals := q.locals ||| e }) (fun _ => rfl) (fun _ => rfl) p m

theorem clearEvents (p : HostPort) (e : EventSet) (m : Part) : SameQueues m (m.clearEvents p e) :=
  trans (n := { m with ports := { m.ports with shared := without m.ports.shared e } })
    ⟨fun l => by cases l <;> rfl, fun q => by cases q <;> rfl⟩
    (onPort (f := fun q => { q with locals := without q.locals e }) (fun _ => rfl) (fun _ => rfl) p _)

end SameQueues

/-! Attending to members, alerts and items -/

/-- Members, alert entries and upload items have been attended to. -/
structure Attends (m n : Part) : Prop where
  route : n.route = m.route
  intake : n.intake = m.intake
  queues : SameQueues m n
  alerts : m.tamper.alerts.length ≤ 32 → n.tamper.alerts.length ≤ 32
  sweep : m.stops.sweep.length ≤ 1024 → n.stops.sweep.length ≤ 1024
  batches : n.upload.batches.length ≤ m.upload.batches.length

theorem Attends.refl (m : Part) : Attends m m := ⟨rfl, rfl, .refl m, id, id, le_rfl⟩

theorem Attends.trans {m n k : Part} (h : Attends m n) (h' : Attends n k) : Attends m k where
  route := h'.route.trans h.route
  intake := h'.intake.trans h.intake
  queues := h.queues.trans h'.queues
  alerts hm := h'.alerts (h.alerts hm)
  sweep hm := h'.sweep (h.sweep hm)
  batches := h'.batches.trans h.batches

/-- Small changes one after another, each of which attends. -/
theorem attends_foldl {α : Type} {f : Part → α → Part} (h : ∀ m x, Attends m (f m x)) (l : List α) (m : Part) :
    Attends m (l.foldl f m) := by
  induction l generalizing m with
  | nil => exact .refl m
  | cons x rest ih => exact (h m x).trans (ih _)

theorem setShared_attends (e : EventSet) (m : Part) : Attends m (m.setShared e) :=
  ⟨rfl, rfl, .setShared e m, id, id, le_rfl⟩

theorem onMember_attends (p : Nat) (f : Member → Member) (m : Part) : Attends m (m.onMember p f) :=
  ⟨rfl, rfl, .of_ports, id, id, le_rfl⟩

theorem setReadState_attends (p : Nat) (r : ReadState) (m : Part) : Attends m (m.setReadState p r) := by
  unfold Part.setReadState
  split
  · exact .refl m
  · exact ⟨rfl, rfl, .of_ports, id, id, le_rfl⟩

theorem onStops_attends {f : Stops → Stops} {m : Part} (h : (f m.stops).sweep.length ≤ m.stops.sweep.length) :
    Attends m (m.onStops f) := ⟨rfl, rfl, .of_ports, id, h.trans, le_rfl⟩

/-! The tamper unit -/

/-- A full alert queue loses the entry offered (R96). -/
theorem offerAlert_attends (a : Alert) (m : Part) : Attends m (m.offerAlert a) := by
  obtain ⟨alerts, stalled, events, heq, halerts, _⟩ := m.offerAlert_cases a
  rw [heq]
  refine .trans (n := { m with tamper := { m.tamper with alerts := alerts, stalled := stalled } })
    ⟨rfl, rfl, .of_ports, fun hm => ?_, id, le_rfl⟩ (setShared_attends ..)
  obtain ⟨hroom, rfl⟩ | ⟨_, rfl⟩ := halerts
  · rw [List.length_append]
    exact hroom
  · exact hm

theorem tamperOutcome_attends (p : Nat) (r : Member) (inds : IndicatorSet) (m : Part) :
    Attends m (m.tamperOutcome p r inds).part := by
  unfold Part.tamperOutcome
  dsimp only
  split_ifs
  · exact onMember_attends ..
  · exact (onMember_attends ..).trans (offerAlert_attends ..)

theorem reportDeferred_attends (m : Part) (e : Nat × Member) : Attends m (m.reportDeferred e) :=
  (onMember_attends ..).trans (offerAlert_attends ..)

theorem reportStop_attends (stop : Nat) (m : Part) : Attends m (m.reportStop stop) :=
  attends_foldl reportDeferred_attends ..

theorem reportAll_attends (m : Part) : Attends m m.reportAll := attends_foldl reportDeferred_attends ..

/-! The stop unit -/

theorem foldl_closing_attends {g : Closing → Nat × Member → Closing} (hg : ∀ c e, Attends c.part (g c e).part)
    (l : List (Nat × Member)) (c : Closing) : Attends c.part (l.foldl g c).part := by
  induction l generalizing c with
  | nil => exact .refl _
  | cons e rest ih => exact (hg c e).trans (ih _)

theorem dropMember_attends (c : Closing) (e : Nat × Member) : Attends c.part (dropMember c e).part :=
  setReadState_attends ..

/-- A full sweep list turns the member away (R115). -/
theorem carryMember_attends (c : Closing) (e : Nat × Member) : Attends c.part (carryMember c e).part := by
  have hcarried := setReadState_attends e.1 .carried c.part
  unfold carryMember
  split_ifs with hroom
  · exact ⟨hcarried.route, hcarried.intake, hcarried.queues.trans .of_ports, hcarried.alerts,
      fun _ => by simpa [Config.sweepPlaces] using hroom, hcarried.batches⟩
  · exact setReadState_attends ..

theorem disposeMembers_attends (stop : Nat) (drop : Bool) (m : Part) : Attends m (m.disposeMembers stop drop).part := by
  have hcarry := foldl_closing_attends carryMember_attends (m.unreadOf stop) ⟨m, 0, 0⟩
  unfold Part.disposeMembers
  dsimp only
  split_ifs
  · exact foldl_closing_attends dropMember_attends _ ⟨m, 0, 0⟩
  · exact hcarry
  · exact hcarry.trans (setShared_attends ..)

theorem Stops.shut_sweep (r : Stop) (u : Stops) : (u.shut r).sweep = u.sweep := by
  unfold Stops.shut
  cases r.slot <;> rfl

theorem Stops.startLinger_sweep (r : Stop) (u : Stops) : (u.startLinger r).sweep = u.sweep := by
  unfold Stops.startLinger
  cases r.slot <;> rfl

theorem closeStop_attends (r : Stop) (drop : Bool) (m : Part) : Attends m (m.closeStop r drop).part :=
  ((disposeMembers_attends ..).trans (onStops_attends (by rw [Stops.shut_sweep]))).trans (reportStop_attends ..)

theorem closeLingering_attends (m : Part) : Attends m m.closeLingering :=
  attends_foldl (fun m r => closeStop_attends r false m) ..

theorem skipHead_attends {e : SweepEntry} {rest : List SweepEntry} {m : Part} (h : m.stops.sweep = e :: rest) :
    Attends m (m.skipHead e rest) := by
  have hstops : Attends m (m.onStops (fun u => { u with sweep := rest })) := onStops_attends (by simp [h])
  obtain ⟨_, heq⟩ | ⟨p, r, _, heq⟩ := skipHead_cases e rest m <;> rw [heq]
  · exact hstops
  · exact hstops.trans (setReadState_attends ..)

/-! The upload engine -/

theorem setItem_attends (s : UploadState) (batch : Option Nat) (m : Part) (n : Nat) : Attends m (m.setItem s batch n) := by
  unfold Part.setItem
  split
  · exact .refl m
  all_goals exact ⟨rfl, rfl, .of_ports, id, id, le_rfl⟩

theorem setItems_attends (s : UploadState) (batch : Option Nat) (numbers : List Nat) (m : Part) :
    Attends m (m.setItems s batch numbers) := attends_foldl (setItem_attends s batch) ..

theorem retire_attends (number : Nat) (m : Part) : Attends m (m.retire number) :=
  ⟨rfl, rfl, .of_ports, id, id, List.length_filter_le ..⟩

theorem returnBatch_attends (b : Batch) (m : Part) : Attends m (m.returnBatch b) :=
  (setItems_attends ..).trans (retire_attends ..)

theorem confirmItems_attends (b : Batch) (m : Part) : Attends m (m.confirmItems b) :=
  (setItems_attends ..).trans (retire_attends ..)

theorem returnBatches_attends (m : Part) : Attends m m.returnBatches :=
  attends_foldl (fun m b => returnBatch_attends b m) ..

theorem breakLink_attends (m : Part) : Attends m m.breakLink := by
  unfold Part.breakLink
  split_ifs
  · exact .refl m
  · exact (returnBatches_attends m).trans (setShared_attends ..)

theorem formOrder_attends (m : Part) : Attends m m.formOrder := ⟨rfl, rfl, .of_ports, id, id, le_rfl⟩

/-- A batch joins the batch table (R166). -/
theorem formBatch_batches (number : Nat) (numbers : List Nat) (m : Part) :
    (m.formBatch number numbers).upload.batches.length ≤ m.upload.batches.length + 1 := by
  have hitems := (setItems_attends .batched (some number) numbers m).batches
  simpa [Part.formBatch] using hitems

/-! Hearings -/

theorem store_attends (store : List Record) (m : Part) : Attends m { m with store := store } :=
  ⟨rfl, rfl, .of_ports, id, id, le_rfl⟩

theorem firstHearing_attends (p : Nat) (r : Member) (q : Queued) (m : Part) : Attends m (m.firstHearing p r q) := by
  unfold Part.firstHearing
  dsimp only
  refine (((tamperOutcome_attends p r _ m).trans (store_attends ..)).trans (setReadState_attends ..)).trans
    ((onMember_attends ..).trans (onStops_attends ?_))
  dsimp only
  split_ifs
  · exact List.length_filter_le ..
  · exact le_rfl

theorem laterHearing_attends (p : Nat) (r : Member) (index : Nat) (e : Record) (q : Queued) (m : Part) :
    Attends m (m.laterHearing p r index e q) :=
  (tamperOutcome_attends ..).trans (store_attends ..)

theorem hearStranger_attends (q : Queued) (lead : Option Nat) (m : Part) : Attends m (m.hearStranger q lead) := by
  obtain ⟨t, events, h⟩ := m.hearStranger_cases q lead
  rw [h]
  exact .trans (n := { m with strangers := t }) ⟨rfl, rfl, .of_ports, id, id, le_rfl⟩ (setShared_attends ..)

theorem hear_attends (q : Queued) (m : Part) : Attends m (m.hear q) := by
  unfold Part.hear
  split
  · exact hearStranger_attends ..
  · split_ifs
    · split
      · exact .refl m
      · split
        · exact .refl m
        · exact laterHearing_attends ..
    · exact firstHearing_attends ..

end Sys2Proof.Machine
end

section
/-! SUPPORT. The intake outside RUNNING (R47, R60). -/

namespace Sys2Proof.Machine

/-- An empty queue, and a void telegram in evaluation. -/
def Intake.Frozen (k : Intake) : Prop := k.queue = [] ∧ ∀ e, k.eval = some e → e.void = true

theorem Part.intakeFrozen_iff {m : Part} : m.IntakeFrozen ↔ (m.route.state ≠ .running → m.intake.Frozen) := Iff.rfl

theorem Intake.frozen_empty : Intake.Frozen ⟨[], none⟩ := ⟨rfl, nofun⟩

theorem Intake.frozen_void (k : Intake) : k.void.Frozen := by
  refine ⟨rfl, fun e he => ?_⟩
  obtain ⟨_, _, rfl⟩ := Option.map_eq_some_iff.mp he
  rfl

/-- The engine whose evaluation has ended takes the next head (R46). -/
theorem Intake.take_free (k : Intake) : Intake.take { k with eval := none } = k.afterEnd := by
  unfold Intake.take Intake.afterEnd
  cases k.queue <;> rfl

theorem Intake.Frozen.afterEnd {k : Intake} (h : k.Frozen) : k.afterEnd.Frozen := by
  unfold Intake.afterEnd
  rw [h.1]
  exact frozen_empty

/-- A void telegram, or one that completes outside RUNNING, is dropped (R47, R48). -/
theorem completeTelegram_of_dropped {m : Part} {e : Evaluation} (h : e.void = true ∨ m.route.state ≠ .running) :
    m.completeTelegram e = { m with intake := m.intake.afterEnd } := by
  unfold Part.completeTelegram
  rw [← Intake.take_free]
  dsimp only
  rw [if_pos h]

theorem intakeFrozen_of_frozen {m : Part} (h : m.intake.Frozen) : m.IntakeFrozen :=
  Part.intakeFrozen_iff.mpr fun _ => h

/-- An intake that is left as it was stays frozen wherever the route goes. -/
theorem Part.IntakeFrozen.of_intake {m n : Part} (hm : m.IntakeFrozen) {q : RouteState} (hstate : m.route.state = q)
    (h : n.intake = m.intake) (hq : q ≠ .running := by decide) : n.IntakeFrozen := by
  refine intakeFrozen_of_frozen ?_
  rw [h]
  exact Part.intakeFrozen_iff.mp hm (hstate ▸ hq)

theorem Attends.intakeFrozen {m n : Part} (h : Attends m n) (hm : m.IntakeFrozen) : n.IntakeFrozen := by
  rw [Part.IntakeFrozen, h.route, h.intake]
  exact hm

theorem clearVolatile_intakeFrozen (m : Part) : m.clearVolatile.IntakeFrozen := intakeFrozen_of_frozen Intake.frozen_empty

theorem Routine.intakeFrozen {m n : Part} (h : Routine m n) (hm : m.IntakeFrozen) : n.IntakeFrozen := by
  cases h
  case none | openStop | startLinger | acknowledge | setPass | clearTamper => exact hm
  case closeStop | expireLinger => exact (closeStop_attends ..).intakeFrozen hm
  case nextBatch hstate _ _ => exact hm.of_intake hstate (setItems_attends ..).intake
  case returnBatch => exact (returnBatch_attends ..).intakeFrozen hm
  case returnBatches => exact (returnBatches_attends m).intakeFrozen hm
  case queueTelegram hstate _ => exact fun h => absurd hstate h
  case warmStart =>
    exact ((closeLingering_attends _).trans (returnBatches_attends _)).intakeFrozen (clearVolatile_intakeFrozen m)
  case clearVolatile => exact clearVolatile_intakeFrozen m

/-- A completion hears a telegram in RUNNING alone; elsewhere it is dropped, and there is no next head (R47, R48). -/
theorem completeTelegram_intakeFrozen {m : Part} (hm : m.IntakeFrozen) (e : Evaluation) :
    (m.completeTelegram e).IntakeFrozen := by
  intro hstate
  rw [Part.completeTelegram_route] at hstate
  rw [completeTelegram_of_dropped (.inr hstate)]
  exact Intake.Frozen.afterEnd (hm hstate)

/-- Every effect keeps the intake frozen outside RUNNING. -/
theorem Effect.intakeFrozen {m n : Part} (h : Effect m n) (hm : m.IntakeFrozen) : n.IntakeFrozen := by
  cases h
  case routine h => exact h.intakeFrozen hm
  case beginLoad hstate => exact hm.of_intake hstate rfl
  case loadStop | loadMember | loadProfile | loadClass | endSecond => exact hm
  case finishLoad hstate _ => exact hm.of_intake hstate rfl
  case clearRoute => exact intakeFrozen_of_frozen m.intake.frozen_void
  case beginUpload hstate => exact hm.of_intake hstate rfl
  case startRoute => exact fun h => absurd rfl h
  case endRoute =>
    have hintake : m.endRoute.intake = m.intake.void := (reportAll_attends _).intake
    refine intakeFrozen_of_frozen ?_
    rw [Part.moveRoute_intake, hintake]
    exact m.intake.frozen_void
  case skipSweep hsweep => exact (skipHead_attends hsweep).intakeFrozen hm
  case confirmBatch b hstate _ =>
    have hintake := (confirmItems_attends b m).intake
    obtain h | h := finishUpload_cases (m.confirmItems b) <;> rw [h] <;> exact hm.of_intake hstate hintake
  case completeTelegram e _ => exact completeTelegram_intakeFrozen hm e
  case coldStart => exact intakeFrozen_of_frozen Intake.frozen_empty

theorem intakeFrozen_of_sameBlocks {m n : Part} (h : m.SameBlocks n) (hm : m.IntakeFrozen) : n.IntakeFrozen := by
  obtain ⟨_, _, _, rfl⟩ := h
  exact hm

/-- Settles O4: every effect keeps the intake frozen, and ports and power do not touch it. -/
theorem intakeStaysFrozen : Obligations.IntakeStaysFrozen :=
  fun _ _ hs h => step_keeps (fun _ _ => intakeFrozen_of_sameBlocks) (fun _ _ => Effect.intakeFrozen) h hs

end Sys2Proof.Machine
end

section
/-! SUPPORT. What a request makes of the output queues and the scans (R146, R180, R182): one response of its own, or a scan begun,
or the responses of a CLEAR ROUTE. -/

namespace Sys2Proof.Machine

/-- What serving a request on a port does to the output queues and the scans. -/
inductive Served (p : HostPort) (tag : Byte) (m : Part) : Part → Prop
  | answered {n : Part} (h : SameQueues m n) (code : ReplyCode) (reply : Reply) : Served p tag m (n.answer p tag code reply)
  | scanning {selection : Selection} {start : Nat} (hfree : m.queryBusy p = false) (hstart : start < Config.directoryPlaces) :
      Served p tag m (m.setScan p (some ⟨tag, selection, start, []⟩))
  | cleared {n : Part} (hp : p = .depot) (h : SameQueues m n) : Served p tag m (n.answerClear tag)

theorem Served.refused (p : HostPort) (tag : Byte) (m : Part) (code : ReplyCode) : Served p tag m (m.refuse p tag code) :=
  .answered (.refl m) code .none

theorem moveRoute_queues (q : RouteState) (m : Part) : SameQueues m (m.moveRoute q) :=
  .trans (n := { m with route := { m.route with state := q } }) .of_ports (.setShared ..)

theorem finishUpload_queues (m : Part) : SameQueues m m.finishUpload := by
  obtain h | h := finishUpload_cases m <;> rw [h]
  · exact .refl m
  · exact moveRoute_queues ..

theorem formBatch_queues (number : Nat) (numbers : List Nat) (m : Part) : SameQueues m (m.formBatch number numbers) :=
  (setItems_attends .batched (some number) numbers m).queues.trans .of_ports

theorem endRoute_queues (m : Part) : SameQueues m m.endRoute :=
  .trans (n := { m with intake := m.intake.void, stops := m.stops.endRoute, dir := m.dir.giveUp }) .of_ports
    (reportAll_attends _).queues

/-- A scan starts at the start cursor of its request, a position of the directory (R145). -/
theorem queryOf_start {body : List Byte} {e : Selection × Nat} (h : queryOf body = some e) :
    e.2 < Config.directoryPlaces := by
  unfold queryOf at h
  split_ifs at h with hbody
  simp only [bind, Option.bind_eq_some_iff] at h
  obtain ⟨_, _, _, _, _, _, _, _, one, _, h⟩ := h
  split_ifs at h
  · obtain ⟨_, _, h⟩ := Option.bind_eq_some_iff.mp h
    cases h
    exact hbody.2
  · cases h
    exact hbody.2

theorem takeClose_served (tag : Byte) (r : Stop) (mode : CloseMode) (m : Part) :
    Served .cab tag m (m.takeClose tag r mode) := by
  unfold Part.takeClose
  split
  · exact .answered .of_ports ..
  · exact .answered (closeStop_attends ..).queues ..

/-- Every request of the cab alone. -/
theorem serve_cab_served {r : Request} (hr : r ∉ portRequests .depot) (tag : Byte) (body : List Byte) (m : Part) :
    Served .cab tag m (serve r .cab tag body m) := by
  cases r
  case startRoute =>
    simp only [serve]
    unfold serveStartRoute
    repeat' split
    any_goals exact .refused ..
    exact .answered (.trans .of_ports (moveRoute_queues ..)) ..
  case endRoute =>
    simp only [serve]
    unfold serveEndRoute
    repeat' split
    any_goals exact .refused ..
    exact .answered ((endRoute_queues m).trans (moveRoute_queues ..)) ..
  case openStop =>
    simp only [serve]
    unfold serveOpenStop
    repeat' split
    any_goals exact .refused ..
    exact .answered .of_ports ..
  case closeStop =>
    simp only [serve]
    unfold serveCloseStop
    repeat' split
    any_goals exact .refused ..
    exact takeClose_served ..
  case readStop =>
    simp only [serve]
    unfold serveReadStop
    repeat' split
    any_goals exact .refused ..
    exact .answered (.refl m) ..
  case skipSweep =>
    simp only [serve]
    unfold serveSkipSweep
    repeat' split
    any_goals exact .refused ..
    next hsweep => exact .answered (skipHead_attends hsweep).queues ..
  case readSweep =>
    simp only [serve]
    unfold serveReadSweep
    split
    · exact .refused ..
    · exact .answered (.refl m) ..
  case acknowledgeAlert =>
    simp only [serve]
    unfold serveAcknowledgeAlert
    split
    · exact .refused ..
    · exact .answered .of_ports ..
  case readAlert =>
    simp only [serve]
    unfold serveReadAlert
    split
    · exact .refused ..
    · exact .answered (.refl m) ..
  case setPass =>
    simp only [serve]
    unfold serveSetPass
    split
    · exact .refused ..
    · exact .answered .of_ports ..
  all_goals exact absurd (by decide) hr

/-- Every request of the depot alone. -/
theorem serve_depot_served {r : Request} (hr : r ∉ portRequests .cab) (tag : Byte) (body : List Byte) (m : Part) :
    Served .depot tag m (serve r .depot tag body m) := by
  cases r
  case beginLoad =>
    simp only [serve]
    unfold serveBeginLoad
    repeat' split
    any_goals exact .refused ..
    exact .answered (moveRoute_queues ..) ..
  case loadStop =>
    simp only [serve]
    unfold serveLoadStop
    repeat' split
    any_goals exact .refused ..
    exact .answered .of_ports ..
  case loadMember =>
    simp only [serve]
    unfold serveLoadMember
    repeat' split
    any_goals exact .refused ..
    exact .answered .of_ports ..
  case loadProfile =>
    simp only [serve]
    unfold serveLoadProfile
    repeat' split
    any_goals exact .refused ..
    exact .answered .of_ports ..
  case loadClass =>
    simp only [serve]
    unfold serveLoadClass
    repeat' split
    any_goals exact .refused ..
    exact .answered .of_ports ..
  case finishLoad =>
    simp only [serve]
    unfold serveFinishLoad
    repeat' split
    any_goals exact .refused ..
    · exact .answered (.refl m) ..
    · exact .answered (.trans .of_ports (moveRoute_queues ..)) ..
  case clearRoute =>
    simp only [serve]
    unfold serveClearRoute
    repeat' split
    any_goals exact .refused ..
    exact .cleared rfl (.trans .of_ports (moveRoute_queues ..))
  case beginUpload =>
    simp only [serve]
    unfold serveBeginUpload
    repeat' split
    any_goals exact .refused ..
    exact .answered ((formOrder_attends m).queues.trans (moveRoute_queues ..)) ..
  case nextBatch =>
    simp only [serve]
    unfold serveNextBatch
    repeat' split
    any_goals exact .refused ..
    · exact .answered (.refl m) ..
    · exact .answered (.refl m) ..
    · exact .answered (formBatch_queues ..) ..
  case confirmBatch =>
    simp only [serve]
    unfold serveConfirmBatch
    repeat' split
    any_goals exact .refused ..
    · exact .answered (.refl m) ..
    · exact .answered ((confirmItems_attends ..).queues.trans (finishUpload_queues _)) ..
  case rejectBatch =>
    simp only [serve]
    unfold serveRejectBatch
    repeat' split
    any_goals exact .refused ..
    · exact .answered (.refl m) ..
    · exact .answered ((returnBatch_attends ..).queues.trans (.setShared ..)) ..
  case clearTamper =>
    simp only [serve]
    unfold serveClearTamper
    repeat' split
    any_goals exact .refused ..
    exact .answered .of_ports ..
  all_goals exact absurd (by decide) hr

/-- Every request that both ports carry. -/
theorem serve_shared_served {r : Request} (hcab : r ∈ portRequests .cab) (hdepot : r ∈ portRequests .depot) (p : HostPort)
    (tag : Byte) (body : List Byte) (m : Part) : Served p tag m (serve r p tag body m) := by
  cases r
  case readMember =>
    simp only [serve]
    unfold serveReadMember
    repeat' split
    any_goals exact .refused ..
    exact .answered (.refl m) ..
  case readStrangers =>
    simp only [serve]
    unfold serveReadStrangers
    split
    · exact .refused ..
    · exact .answered (.refl m) ..
  case queryMembers =>
    simp only [serve]
    unfold serveQueryMembers
    split_ifs with hstate hbusy
    · exact .refused ..
    · exact .refused ..
    · split
      · exact .refused ..
      · next hbody =>
        split_ifs
        · exact .answered (.refl m) ..
        · exact .scanning (by simpa using hbusy) (queryOf_start hbody)
  case clearEvents =>
    simp only [serve]
    unfold serveClearEvents
    split
    · exact .refused ..
    · exact .answered (.clearEvents ..) ..
  case setMask =>
    simp only [serve]
    unfold serveSetMask
    split
    · exact .refused ..
    · next e _ => exact .answered (.onPort (f := fun q => { q with mask := e }) (fun _ => rfl) (fun _ => rfl) ..) ..
  case readState =>
    simp only [serve]
    unfold serveReadState
    split
    · exact .refused ..
    · exact .answered (.refl m) ..
  case startRoute | endRoute | openStop | closeStop | readStop | skipSweep | readSweep | acknowledgeAlert | readAlert
      | setPass => exact absurd hdepot (by decide)
  all_goals exact absurd hcab (by decide)

/-- A request is answered once on its own port under its own tag, but for a scan begun and a CLEAR ROUTE (R146, R153, R180). -/
theorem serve_served {p : HostPort} {r : Request} (hr : r ∈ portRequests p) (tag : Byte) (body : List Byte) (m : Part) :
    Served p tag m (serve r p tag body m) := by
  by_cases hcab : r ∈ portRequests .cab
  · by_cases hdepot : r ∈ portRequests .depot
    · exact serve_shared_served hcab hdepot p tag body m
    · cases port_eq_cab hr hdepot
      exact serve_cab_served hdepot tag body m
  · cases port_eq_depot hr hcab
    exact serve_depot_served hcab tag body m

/-- A frame that a cab or depot port judges is served, or refused (R180). -/
theorem serveHost_served (p : HostPort) (f : RxFrame) (m : Part) : Served p f.tag m (serveHost p f m) := by
  have badFrame : Served p f.tag m (serveBadFrame p f m) := .answered (.setLocal ..) ..
  unfold serveHost
  split
  · exact badFrame
  · split_ifs
    · split
      · next r hcode => exact serve_served (List.mem_of_find?_eq_some hcode) ..
      · exact .refused ..
    · exact badFrame

end Sys2Proof.Machine
end

section
/-! SUPPORT. The places of the output queues and of the scans (R144, R146, R149, R182, R183). -/

namespace Sys2Proof.Machine

/-- A host port within its places: at most 8 responses to requests, and a scan in flight or a scan's response, not both; a scan in
flight is one that has not completed. -/
structure PortState.Within (q : PortState) : Prop where
  waiting : q.link.waiting ≤ 8
  one : q.link.out.countP (fun r => r.scan) + (if q.scan.isSome then 1 else 0) ≤ 1
  scan : ∀ c, q.scan = some c → c.found.length < 16 ∧ c.next < 8192

/-- Every port within its places. -/
structure Part.PortsWithin (m : Part) : Prop where
  radio : m.ports.radio.waiting ≤ 4
  port : ∀ p, (m.port p).Within

theorem Link.waiting_of_out {k k' : Link} (h : k'.out = k.out) : k'.waiting = k.waiting := by
  unfold Link.waiting
  rw [h]

/-- Only the output queue and the scan of a port are bounded. -/
theorem PortState.Within.of_same {q q' : PortState} (h : q.Within) (hout : q'.link.out = q.link.out)
    (hscan : q'.scan = q.scan) : q'.Within where
  waiting := (Link.waiting_of_out hout).trans_le h.waiting
  one := by
    rw [hout, hscan]
    exact h.one
  scan := by
    rw [hscan]
    exact h.scan

/-- A port with an empty output queue and no scan. -/
theorem PortState.within_of_empty {q : PortState} (hout : q.link.out = []) (hscan : q.scan = none) : q.Within where
  waiting := by simp [Link.waiting, hout]
  one := by simp [hout, hscan]
  scan := by simp [hscan]

theorem SameQueues.waiting {m n : Part} (h : SameQueues m n) (l : Line) : (n.link l).waiting = (m.link l).waiting :=
  Link.waiting_of_out (h.out l)

theorem SameQueues.hasRoom {m n : Part} (h : SameQueues m n) (l : Line) : n.hasRoom l = m.hasRoom l := by
  unfold Part.hasRoom
  rw [h.waiting]

theorem SameQueues.portsWithin {m n : Part} (h : SameQueues m n) (hm : m.PortsWithin) : n.PortsWithin where
  radio := (h.waiting .radio).trans_le hm.radio
  port p := (hm.port p).of_same (by simpa using h.out (portLine p)) (h.scan p)

theorem Part.PortsWithin.onPort {m : Part} (hm : m.PortsWithin) {p : HostPort} {f : PortState → PortState}
    (h : (f (m.port p)).Within) : (m.onPort p f).PortsWithin where
  radio := by
    rw [Part.onPort_radio]
    exact hm.radio
  port q := by
    by_cases hq : p = q
    · subst hq
      rwa [Part.port_onPort]
    · rw [Part.port_onPort_of_ne _ _ hq]
      exact hm.port q

/-- A response on a host port's line is one on its port's output queue. -/
theorem Part.send_portLine (p : HostPort) (r : Response) (m : Part) :
    m.send (portLine p) r = m.onPort p (fun q => { q with link := { q.link with out := q.link.out ++ [r] } }) := by
  cases p <;> rfl

theorem Part.hasRoom_portLine (p : HostPort) (m : Part) : m.hasRoom (portLine p) = true ↔ (m.port p).link.waiting < 8 := by
  cases p <;> exact decide_eq_true_iff

theorem Part.hasRoom_radio (m : Part) : m.hasRoom .radio = true ↔ m.ports.radio.waiting < 4 :=
  decide_eq_true_iff

/-! Responses -/

/-- A response to a request takes one of the free places (R182). -/
theorem Part.PortsWithin.answer {m : Part} (hm : m.PortsWithin) {p : HostPort} (hroom : m.hasRoom (portLine p) = true)
    (tag : Byte) (code : ReplyCode) (reply : Reply) : (m.answer p tag code reply).PortsWithin := by
  have hport := hm.port p
  rw [Part.hasRoom_portLine] at hroom
  unfold Part.answer
  rw [Part.send_portLine]
  exact hm.onPort
    { waiting := by simpa [Link.waiting] using hroom
      one := by simpa using hport.one
      scan := hport.scan }

theorem Part.PortsWithin.answerRadio {m : Part} (hm : m.PortsWithin) (hroom : m.hasRoom .radio = true) (tag : Byte)
    (code : ReplyCode) : (m.answerRadio tag code).PortsWithin where
  radio := by
    rw [Part.hasRoom_radio] at hroom
    simpa [Part.answerRadio, Part.send, Part.onLink, Link.waiting] using hroom
  port p := by
    cases p
    · exact hm.port .cab
    · exact hm.port .depot

/-- A scan's response takes the kept place that the scan leaves free (R146, R182). -/
theorem Part.PortsWithin.finishScan {m : Part} (hm : m.PortsWithin) {p : HostPort} {c : Scan}
    (hscan : (m.port p).scan = some c) (code : ReplyCode) (tag : Byte) (reply : Reply) :
    ((m.setScan p none).send (portLine p) ⟨code, tag, reply, true⟩).PortsWithin := by
  have hport := hm.port p
  have hone := hport.one
  rw [hscan] at hone
  have hfreed : (m.setScan p none).PortsWithin :=
    hm.onPort { waiting := hport.waiting, one := hport.one.trans' (Nat.le_add_right ..), scan := by simp }
  have hfree : ((m.setScan p none).port p) = { m.port p with scan := none } := by simp [Part.setScan]
  rw [Part.send_portLine]
  refine hfreed.onPort ?_
  rw [hfree]
  exact
    { waiting := by simpa [Link.waiting] using hport.waiting
      one := by simpa using hone
      scan := by simp }

theorem Part.PortsWithin.endScan {m : Part} (hm : m.PortsWithin) (p : HostPort) : (m.endScan p).PortsWithin := by
  unfold Part.endScan
  split
  · exact hm
  · next hscan => exact hm.finishScan hscan ..

/-- A scan's response takes no place of a response to a request (R182). -/
theorem Part.endScan_hasRoom (p : HostPort) (l : Line) (m : Part) : (m.endScan p).hasRoom l = m.hasRoom l := by
  have hwaiting : ((m.endScan p).link l).waiting = (m.link l).waiting := by
    unfold Part.endScan
    split
    · rfl
    · cases p <;> cases l <;> simp [Part.setScan, Part.send, Part.onLink, Part.onPort, Part.link, portLine, Link.waiting]
  unfold Part.hasRoom
  rw [hwaiting]

/-- The responses of a CLEAR ROUTE take one free place, and the kept places of the scans they end (R153, R182). -/
theorem Part.PortsWithin.answerClear {m : Part} (hm : m.PortsWithin) (hroom : m.hasRoom .depot = true) (tag : Byte) :
    (m.answerClear tag).PortsWithin := by
  have hcab := hm.endScan .cab
  have hcabRoom : (m.endScan .cab).hasRoom .depot = true := (m.endScan_hasRoom .cab .depot).trans hroom
  have hcount : SameQueues (m.endScan .cab) { m.endScan .cab with choices := (m.endScan .cab).choices + 1 } := .of_ports
  have hcounted := hcount.portsWithin hcab
  have hcountedRoom := (hcount.hasRoom .depot).trans hcabRoom
  unfold Part.answerClear
  dsimp only
  split
  · exact hcab.answer (p := .depot) hcabRoom ..
  · split_ifs
    · exact (hcounted.endScan .depot).answer (p := .depot) ((Part.endScan_hasRoom ..).trans hcountedRoom) ..
    · exact (hcounted.answer (p := .depot) hcountedRoom ..).endScan .depot

theorem Part.PortsWithin.startScan {m : Part} (hm : m.PortsWithin) {p : HostPort} (hfree : m.queryBusy p = false) {c : Scan}
    (hfound : c.found.length < 16) (hnext : c.next < 8192) : (m.setScan p (some c)).PortsWithin := by
  have hwaits : (m.port p).link.out.countP (fun r => r.scan) = 0 := by
    rw [List.countP_eq_zero]
    simpa [Link.scanWaits] using (Bool.or_eq_false_iff.mp hfree).2
  exact hm.onPort
    { waiting := (hm.port p).waiting
      one := by simp [hwaits]
      scan := by simp [hfound, hnext] }

theorem Served.portsWithin {p : HostPort} {tag : Byte} {m n : Part} (h : Served p tag m n) (hm : m.PortsWithin)
    (hroom : m.hasRoom (portLine p) = true) : n.PortsWithin := by
  cases h
  case answered h code reply => exact (h.portsWithin hm).answer ((h.hasRoom _).trans hroom) ..
  case scanning hfree hstart => exact hm.startScan hfree (by simp) hstart
  case cleared hp h =>
    subst hp
    exact (h.portsWithin hm).answerClear ((h.hasRoom _).trans hroom) tag

/-! Frames and bytes -/

theorem queueTelegram_queues (t : Telegram) (m : Part) : SameQueues m (m.queueTelegram t) := .of_ports

theorem serveRadio_portsWithin {m : Part} (hm : m.PortsWithin) (hroom : m.hasRoom .radio = true) (f : RxFrame) :
    (serveRadio f m).PortsWithin := by
  unfold serveRadio
  split
  · exact hm.answerRadio hroom ..
  · split_ifs
    · exact hm.answerRadio hroom ..
    · split
      · exact hm.answerRadio hroom ..
      · next t _ =>
        have hqueue := queueTelegram_queues t m
        have hfull := SameQueues.setShared evIntakeFull m
        unfold Part.receiveTelegram
        split_ifs
        · exact hm.answerRadio hroom ..
        · exact (hqueue.portsWithin hm).answerRadio ((hqueue.hasRoom _).trans hroom) ..
        · exact (hfull.portsWithin hm).answerRadio ((hfull.hasRoom _).trans hroom) ..

theorem judge_portsWithin {m : Part} (hm : m.PortsWithin) {l : Line} (hroom : m.hasRoom l = true) (f : RxFrame) :
    (judge l f m).PortsWithin := by
  cases l
  case radio => exact serveRadio_portsWithin hm hroom f
  case cab => exact (serveHost_served .cab f m).portsWithin hm hroom
  case depot => exact (serveHost_served .depot f m).portsWithin hm hroom

theorem hold_queues (l : Line) (held : Option RxFrame) (m : Part) :
    SameQueues m (m.onLink l (fun k => { k with held := held })) :=
  .onLink (f := fun k => { k with held := held }) (fun _ => rfl) l m

theorem assemble_queues (l : Line) (a : Assembly) (m : Part) : SameQueues m (m.assemble l a) :=
  .onLink (f := fun k => { k with rx := a }) (fun _ => rfl) l m

theorem startOverrun_queues (l : Line) (m : Part) : SameQueues m (startOverrun l m) := by
  have hoverrun := assemble_queues l .overrun m
  unfold startOverrun
  dsimp only
  split
  · exact hoverrun
  · exact hoverrun.trans (.setLocal ..)

theorem arrive_portsWithin {m : Part} (hm : m.PortsWithin) (l : Line) (f : RxFrame) : (arrive l f m).PortsWithin := by
  obtain ⟨hroom, h⟩ | ⟨_, h⟩ := arrive_cases l f m <;> rw [h]
  · exact judge_portsWithin hm hroom f
  · exact (hold_queues ..).portsWithin hm

theorem receiveByte_portsWithin {m : Part} (hm : m.PortsWithin) (l : Line) (b : Byte) : (receiveByte l m b).PortsWithin := by
  unfold receiveByte collect
  repeat' split
  any_goals exact hm
  · exact (startOverrun_queues ..).portsWithin hm
  · exact (assemble_queues ..).portsWithin hm
  · exact (assemble_queues ..).portsWithin hm
  · exact (assemble_queues ..).portsWithin hm
  · exact arrive_portsWithin ((assemble_queues ..).portsWithin hm) ..

theorem silence_portsWithin {m : Part} (hm : m.PortsWithin) (l : Line) : (silence l m).PortsWithin := by
  unfold silence
  repeat' split
  any_goals exact hm
  · exact (assemble_queues ..).portsWithin hm
  · exact arrive_portsWithin ((assemble_queues ..).portsWithin hm) ..
  · exact arrive_portsWithin ((assemble_queues ..).portsWithin hm) ..

theorem receiveBytes_portsWithin {m : Part} (hm : m.PortsWithin) (l : Line) (bytes : List Byte) :
    (receiveBytes l bytes m).PortsWithin := by
  induction bytes generalizing m with
  | nil => exact hm
  | cons b rest ih => exact ih (receiveByte_portsWithin hm l b)

theorem receiveFrame_portsWithin {m : Part} (hm : m.PortsWithin) (l : Line) (f : RxFrame) :
    (receiveFrame l f m).PortsWithin := by
  cases f
  case byLength => exact receiveBytes_portsWithin hm ..
  case malformed => exact silence_portsWithin (receiveBytes_portsWithin hm ..) l

theorem frameEvent_portsWithin {m : Part} (hm : m.PortsWithin) (l : Line) (f : RxFrame) :
    (frameEvent l f (judge l f) m).PortsWithin := by
  unfold frameEvent
  split_ifs with _ hroom
  · exact judge_portsWithin hm hroom f
  · exact (hold_queues ..).portsWithin hm
  · exact receiveFrame_portsWithin hm l f

theorem releaseHeld_portsWithin {m : Part} (hm : m.PortsWithin) (l : Line) : (releaseHeld l m).PortsWithin := by
  unfold releaseHeld
  split
  · exact hm
  · split_ifs with hroom
    · exact judge_portsWithin ((hold_queues ..).portsWithin hm) (((hold_queues ..).hasRoom l).trans hroom) _
    · exact hm

/-- A port whose head response has been sent. -/
def PortState.afterSending (r : Response) (rest : List Response) (q : PortState) : PortState :=
  { q with link := { q.link with out := rest, sent := responseBytes r } }

/-- A response that has left the output queue frees its place. -/
theorem PortState.Within.sent {q : PortState} (h : q.Within) {r : Response} {rest : List Response}
    (hout : q.link.out = r :: rest) : (q.afterSending r rest).Within := by
  obtain ⟨hwaiting, hone, hscan⟩ := h
  simp only [Link.waiting, hout, List.countP_cons] at hwaiting hone
  exact
    { waiting := (Nat.le_add_right ..).trans hwaiting
      one := (Nat.add_le_add_right (Nat.le_add_right ..) _).trans hone
      scan := hscan }

theorem transmitted_portsWithin {m : Part} (hm : m.PortsWithin) (l : Line) : (transmitted l m).PortsWithin := by
  unfold transmitted
  split
  · exact hm
  · next r rest hout =>
    refine releaseHeld_portsWithin ?_ l
    cases l
    case radio =>
      have hradio := hm.radio
      simp only [Part.link] at hout
      simp only [Link.waiting, hout, List.countP_cons] at hradio
      exact
        { radio := by simp only [Part.onLink, Link.waiting]; omega
          port := fun p => by cases p; exacts [hm.port .cab, hm.port .depot] }
    case cab => exact hm.onPort (p := .cab) (f := PortState.afterSending r rest) ((hm.port .cab).sent hout)
    case depot => exact hm.onPort (p := .depot) (f := PortState.afterSending r rest) ((hm.port .depot).sent hout)

/-! The other commands -/

theorem whileAlive_portsWithin {f : Part → Part} (h : ∀ m, m.PortsWithin → (f m).PortsWithin) {m : Part}
    (hm : m.PortsWithin) : (whileAlive f m).PortsWithin := by
  unfold whileAlive
  split_ifs
  · exact h m hm
  · exact hm

theorem completeTelegram_queues (e : Evaluation) (m : Part) : SameQueues m (m.completeTelegram e) := by
  unfold Part.completeTelegram
  dsimp only
  split_ifs
  · exact .of_ports
  · exact .trans (n := { m with intake := { m.intake with eval := none } }) .of_ports
      ((hear_attends ..).queues.trans .of_ports)

theorem expireLinger_queues (i : Fin 4) (m : Part) : SameQueues m (m.expireLinger i) := by
  unfold Part.expireLinger
  repeat' split
  any_goals exact .refl m
  exact (closeStop_attends ..).queues.trans (.setLocal ..)

theorem expireBatch_queues (number : Nat) (m : Part) : SameQueues m (m.expireBatch number) := by
  unfold Part.expireBatch
  repeat' split
  any_goals exact .refl m
  exact (returnBatch_attends ..).queues.trans (.setShared ..)

theorem endSecond_queues (m : Part) : SameQueues m m.endSecond := .of_ports

/-- A reach that does not complete its scan leaves it in flight within its places (R148, R149). -/
theorem reachScan_portsWithin {m : Part} (hm : m.PortsWithin) {p : HostPort} {c : Scan} (hscan : (m.port p).scan = some c) :
    (m.reachScan p c).PortsWithin := by
  unfold Part.reachScan
  dsimp only
  split_ifs with hcomplete
  · exact hm.finishScan hscan ..
  · obtain ⟨hwaiting, hone, _⟩ := hm.port p
    rw [hscan] at hone
    refine hm.onPort { waiting := hwaiting, one := hone, scan := fun _ h => ?_ }
    cases h
    simp only [Scan.complete, Bool.or_eq_true, decide_eq_true_iff, not_or, not_le] at hcomplete
    exact hcomplete

theorem clearPorts_portsWithin (m : Part) : m.clearPorts.PortsWithin where
  radio := by simp [Part.clearPorts, Link.emptied, Link.waiting]
  port p := by cases p <;> exact PortState.within_of_empty rfl rfl

theorem cold_portsWithin (cab depot dock reset : Bool) (choices : Nat) :
    (Part.cold cab depot dock reset choices).PortsWithin where
  radio := by simp [Part.cold, Link.quiet, Link.waiting]
  port p := by cases p <;> exact PortState.within_of_empty rfl rfl

/-- The input lines' levels and the dock status have no part in the output queues. -/
theorem SameQueues.lines {m n : Part} (hradio : n.ports.radio = m.ports.radio := by rfl)
    (hcab : n.ports.cab = m.ports.cab := by rfl) (hdepot : n.ports.depot = m.ports.depot := by rfl) : SameQueues m n where
  out l := by cases l <;> simp [Part.link, hradio, hcab, hdepot]
  scan p := by cases p <;> simp [Part.port, hcab, hdepot]

theorem holdReset_queues (p : HostPort) (level : Bool) (m : Part) :
    SameQueues m (m.onPort p (fun q => { q with resetHeld := level })) :=
  .onPort (f := fun q => { q with resetHeld := level }) (fun _ => rfl) (fun _ => rfl) p m

theorem warmRestart_portsWithin (m : Part) : m.warmRestart.PortsWithin :=
  SameQueues.portsWithin .lines (clearPorts_portsWithin _)

theorem start_portsWithin (s : Start) (m : Part) : (m.start s).PortsWithin := by
  cases s
  · exact cold_portsWithin ..
  · exact warmRestart_portsWithin m

theorem powerUp_portsWithin {m : Part} (hm : m.PortsWithin) (kept : Bool) : (m.powerUp kept).PortsWithin := by
  unfold Part.powerUp
  dsimp only
  split
  · exact SameQueues.portsWithin .lines hm
  · exact start_portsWithin ..

theorem assertReset_portsWithin {m : Part} (hm : m.PortsWithin) : m.assertReset.PortsWithin := by
  unfold Part.assertReset
  dsimp only
  split_ifs
  · split
    · exact warmRestart_portsWithin _
    · exact SameQueues.portsWithin .lines (clearPorts_portsWithin m)
  · exact SameQueues.portsWithin .lines hm

theorem releaseReset_portsWithin {m : Part} (hm : m.PortsWithin) : m.releaseReset.PortsWithin := by
  unfold Part.releaseReset
  dsimp only
  repeat' split
  · exact start_portsWithin ..
  · exact SameQueues.portsWithin .lines hm
  · exact SameQueues.portsWithin .lines hm

theorem resetCab_portsWithin {m : Part} (hm : m.PortsWithin) : m.resetCab.PortsWithin := by
  have hheld := (holdReset_queues .cab true m).portsWithin hm
  unfold Part.resetCab
  dsimp only
  split_ifs
  · exact SameQueues.portsWithin .lines
      (hheld.onPort (p := .cab) (f := PortState.cleared) (PortState.within_of_empty rfl rfl))
  · exact hheld

theorem resetDepot_portsWithin {m : Part} (hm : m.PortsWithin) : m.resetDepot.PortsWithin := by
  have hheld := (holdReset_queues .depot true m).portsWithin hm
  unfold Part.resetDepot
  dsimp only
  split_ifs
  · exact (breakLink_attends _).queues.portsWithin
      (hheld.onPort (p := .depot) (f := PortState.cleared) (PortState.within_of_empty rfl rfl))
  · exact hheld

theorem dock_portsWithin {m : Part} (hm : m.PortsWithin) : m.dock.PortsWithin := by
  unfold Part.dock
  dsimp only
  split_ifs
  · exact (SameQueues.setLocal ..).portsWithin (SameQueues.portsWithin .lines hm)
  · exact SameQueues.portsWithin .lines hm

theorem undock_portsWithin {m : Part} (hm : m.PortsWithin) : m.undock.PortsWithin := by
  unfold Part.undock
  dsimp only
  split_ifs
  · refine (breakLink_attends _).queues.portsWithin (Part.PortsWithin.onPort ?_ (PortState.within_of_empty rfl rfl))
    exact SameQueues.portsWithin .lines hm
  · exact SameQueues.portsWithin .lines hm

/-! Commands and steps -/

/-- What a command that is no frame does keeps the ports within their places. -/
theorem exec_unframed_portsWithin {c : Instr} (h : frameOfCommand c = none) (s : State) :
    ∃ f : Part → Part, exec c s = act f s ∧ ∀ m, m.PortsWithin → (f m).PortsWithin := by
  cases c <;> cases h
  case telegramCompletion =>
    refine ⟨_, rfl, fun m => whileAlive_portsWithin fun m hm => ?_⟩
    split
    · exact hm
    · exact (completeTelegram_queues ..).portsWithin hm
  case confirmTimerExpiry n =>
    exact ⟨_, rfl, fun m => whileAlive_portsWithin fun m => (expireBatch_queues n m).portsWithin⟩
  case lingerExpiry i => exact ⟨_, rfl, fun m => whileAlive_portsWithin fun m => (expireLinger_queues i m).portsWithin⟩
  case scanReach p =>
    refine ⟨_, rfl, fun m => whileAlive_portsWithin fun m hm => ?_⟩
    split
    · exact hm
    · next hscan => exact reachScan_portsWithin hm hscan
  case receiveSilence l => exact ⟨_, rfl, fun m hm => silence_portsWithin hm l⟩
  case overrun l b => exact ⟨fun m => receiveByte l m b, rfl, fun m hm => receiveByte_portsWithin hm l b⟩
  case transmitCompletion l => exact ⟨_, rfl, fun m => whileAlive_portsWithin fun m hm => transmitted_portsWithin hm l⟩
  case dockLineRising => exact ⟨_, rfl, fun m => dock_portsWithin⟩
  case dockLineFalling => exact ⟨_, rfl, fun m => undock_portsWithin⟩
  case cabPortReset => exact ⟨_, rfl, fun m => resetCab_portsWithin⟩
  case depotPortReset => exact ⟨_, rfl, fun m => resetDepot_portsWithin⟩
  case powerUp kept => exact ⟨_, rfl, fun m hm => powerUp_portsWithin hm kept⟩
  case powerLoss => exact ⟨_, rfl, fun m _ => SameQueues.portsWithin .lines (clearPorts_portsWithin m)⟩
  case reset => exact ⟨_, rfl, fun m => assertReset_portsWithin⟩
  case resetRelease => exact ⟨_, rfl, fun m => releaseReset_portsWithin⟩
  case endOfSecond => exact ⟨_, rfl, fun m => whileAlive_portsWithin fun m => (endSecond_queues m).portsWithin⟩
  case cabPortResetRelease => exact ⟨_, rfl, fun m => (holdReset_queues .cab false m).portsWithin⟩
  case depotPortResetRelease => exact ⟨_, rfl, fun m => (holdReset_queues .depot false m).portsWithin⟩

/-- Every step keeps the ports within their places: a frame is judged where there is room for its response. -/
theorem step_portsWithin {s t : State} (h : step s = .next t) (hs : s.part.PortsWithin) : t.part.PortsWithin := by
  unfold step at h
  split at h
  · cases h
    exact hs
  · next c rest _ =>
    cases hc : frameOfCommand c with
    | none =>
      obtain ⟨f, hf, hkept⟩ := exec_unframed_portsWithin hc { s with pending := rest }
      cases hf.symm.trans h
      exact hkept _ hs
    | some lf =>
      rw [exec_frame_judged (l := lf.1) (f := lf.2) hc] at h
      cases h
      exact frameEvent_portsWithin hs ..

end Sys2Proof.Machine
end

section
/-! SUPPORT. The places of the intake queue, the alert queue, the sweep list and the batch table (R44, R96, R120, R163). -/

namespace Sys2Proof.Machine

/-- The blocks' lists within their places. -/
structure Part.ListsWithin (m : Part) : Prop where
  intake : m.intake.queue.length ≤ 16
  alerts : m.tamper.alerts.length ≤ 32
  sweep : m.stops.sweep.length ≤ 1024
  batches : m.upload.batches.length ≤ 2

theorem Part.withinPlaces_iff {m : Part} : m.WithinPlaces ↔ m.ListsWithin ∧ m.PortsWithin := by
  constructor
  · rintro ⟨hintake, halerts, hsweep, hbatches, hradio, hports⟩
    refine ⟨⟨hintake, halerts, hsweep, hbatches⟩, hradio, fun p => ?_⟩
    obtain ⟨hwaiting, hone, hscan⟩ := hports p
    exact ⟨hwaiting, hone, hscan⟩
  · rintro ⟨⟨hintake, halerts, hsweep, hbatches⟩, hradio, hports⟩
    exact ⟨hintake, halerts, hsweep, hbatches, hradio, fun p => ⟨(hports p).waiting, (hports p).one, (hports p).scan⟩⟩

theorem Attends.listsWithin {m n : Part} (h : Attends m n) (hm : m.ListsWithin) : n.ListsWithin where
  intake := by
    rw [h.intake]
    exact hm.intake
  alerts := h.alerts hm.alerts
  sweep := h.sweep hm.sweep
  batches := h.batches.trans hm.batches

theorem listsWithin_of_sameBlocks {m n : Part} (h : m.SameBlocks n) (hm : m.ListsWithin) : n.ListsWithin := by
  obtain ⟨_, _, _, rfl⟩ := h
  exact { hm with }

theorem Part.ListsWithin.moveRoute {m : Part} (hm : m.ListsWithin) (q : RouteState) : (m.moveRoute q).ListsWithin :=
  { hm with }

/-- A part whose intake alone was changed. -/
theorem Part.ListsWithin.withIntake {m : Part} (hm : m.ListsWithin) {k : Intake} (h : k.queue.length ≤ 16) :
    Part.ListsWithin { m with intake := k } := { hm with intake := h }

/-- A take shortens the intake queue, or leaves it (R46). -/
theorem Intake.take_length (k : Intake) : k.take.queue.length ≤ k.queue.length := by
  unfold Intake.take
  split
  · next hqueue => simp [hqueue]
  · exact le_rfl

theorem Part.ListsWithin.clearVolatile {m : Part} (hm : m.ListsWithin) : m.clearVolatile.ListsWithin :=
  { hm with intake := Nat.zero_le _ }

theorem completeTelegram_listsWithin {m : Part} (hm : m.ListsWithin) (e : Evaluation) :
    (m.completeTelegram e).ListsWithin := by
  have hfree : Part.ListsWithin { m with intake := { m.intake with eval := none } } := hm.withIntake hm.intake
  have hheard := (hear_attends e.queued { m with intake := { m.intake with eval := none } }).listsWithin hfree
  unfold Part.completeTelegram
  dsimp only
  split_ifs
  · exact hfree.withIntake ((Intake.take_length _).trans hfree.intake)
  · exact hheard.withIntake ((Intake.take_length _).trans hheard.intake)

theorem Routine.listsWithin {m n : Part} (h : Routine m n) (hm : m.ListsWithin) : n.ListsWithin := by
  cases h
  case none => exact hm
  case openStop => exact { hm with }
  case startLinger => exact (onStops_attends (by rw [Stops.startLinger_sweep])).listsWithin hm
  case closeStop | expireLinger => exact (closeStop_attends ..).listsWithin hm
  case acknowledge => exact { hm with alerts := (List.length_tail ..).trans_le ((Nat.sub_le ..).trans hm.alerts) }
  case setPass => exact { hm with }
  case clearTamper => exact (onMember_attends ..).listsWithin hm
  case nextBatch hroom _ =>
    have hitems := (setItems_attends .batched (some m.upload.newNumber) (m.freshItems.take Config.batchItems) m)
    exact { hitems.listsWithin hm with batches := (formBatch_batches ..).trans hroom }
  case returnBatch => exact (returnBatch_attends ..).listsWithin hm
  case returnBatches => exact (returnBatches_attends m).listsWithin hm
  case queueTelegram hroom =>
    refine hm.withIntake ((Intake.take_length _).trans ?_)
    rw [List.length_append]
    exact hroom
  case warmStart =>
    exact ((closeLingering_attends _).trans (returnBatches_attends _)).listsWithin hm.clearVolatile
  case clearVolatile => exact hm.clearVolatile

/-- Every effect keeps the lists within their places: an entry joins where there is room. -/
theorem Effect.listsWithin {m n : Part} (h : Effect m n) (hm : m.ListsWithin) : n.ListsWithin := by
  cases h
  case routine h => exact h.listsWithin hm
  case beginLoad | loadStop | loadMember | loadProfile | loadClass | finishLoad | startRoute => exact { hm with }
  case clearRoute | coldStart => exact ⟨Nat.zero_le _, Nat.zero_le _, Nat.zero_le _, Nat.zero_le _⟩
  case beginUpload => exact ((formOrder_attends m).listsWithin hm).moveRoute _
  case endRoute =>
    have hended : Part.ListsWithin
        { m with intake := m.intake.void, stops := m.stops.endRoute, dir := m.dir.giveUp } :=
      { hm with intake := Nat.zero_le _, sweep := Nat.zero_le _ }
    exact ((reportAll_attends _).listsWithin hended).moveRoute _
  case skipSweep hsweep => exact (skipHead_attends hsweep).listsWithin hm
  case confirmBatch b _ _ =>
    have hitems := (confirmItems_attends b m).listsWithin hm
    obtain h | h := finishUpload_cases (m.confirmItems b) <;> rw [h]
    · exact hitems
    · exact hitems.moveRoute _
  case completeTelegram e _ => exact completeTelegram_listsWithin hm e
  case endSecond => exact { hm with batches := (List.length_map ..).trans_le hm.batches }

/-- Every step keeps every queue and list within its places. -/
theorem step_withinPlaces {s t : State} (hs : s.part.WithinPlaces) (h : step s = .next t) : t.part.WithinPlaces := by
  obtain ⟨hlists, hports⟩ := Part.withinPlaces_iff.mp hs
  exact Part.withinPlaces_iff.mpr
    ⟨step_keeps (fun _ _ => listsWithin_of_sameBlocks) (fun _ _ => Effect.listsWithin) h hlists,
      step_portsWithin h hports⟩

end Sys2Proof.Machine
end

section
/-! SUPPORT. Stops, slots, linger timers and the opening order in agreement (R108, R110, R111, R116). -/

namespace Sys2Proof.Machine

/-! The stop unit -/

/-- A stop record as its number and its state make it. -/
structure Stop.Fits (n : Nat) (r : Stop) : Prop where
  number : r.number = n
  linger : r.lingerTime ≤ 255
  slot : r.slot.isSome = true ↔ r.state = .opened ∨ r.state = .lingering

/-- Stops, slots and opening order agree, each stop read by its number. -/
structure Stops.Agree (u : Stops) : Prop where
  canonical : Table.Canonical u.records
  fits : ∀ n r, Table.find u.records n = some r → r.Fits n
  holds : ∀ n r (i : Fin 4), Table.find u.records n = some r → r.slot = some i →
    u.slots[i].stop = some n ∧ (u.slots[i].timer.isSome = true ↔ r.state = .lingering)
  held : ∀ (i : Fin 4) n, u.slots[i].stop = some n → ∃ r, Table.find u.records n = some r ∧ r.slot = some i
  idle : ∀ i : Fin 4, u.slots[i].stop = none → u.slots[i].timer = none
  timers : ∀ (i : Fin 4) t, u.slots[i].timer = some t → 1 ≤ t.left ∧ t.left ≤ 255
  nodup : u.order.Nodup
  opened : ∀ n, n ∈ u.order ↔ ∃ r, Table.find u.records n = some r ∧ r.state = .opened

/-- Each OPEN stop holds a slot of its own, so there are no more of them than slots (R110, R111). -/
theorem Stops.Agree.order_length {u : Stops} (h : u.Agree) : u.order.length ≤ 4 := by
  have hsubset : u.order ⊆ (List.finRange 4).filterMap (fun i => u.slots[i].stop) := by
    intro n hn
    obtain ⟨r, hr, hopened⟩ := (h.opened n).mp hn
    obtain ⟨i, hi⟩ := Option.isSome_iff_exists.mp ((h.fits n r hr).slot.mpr (.inl hopened))
    exact List.mem_filterMap.mpr ⟨i, List.mem_finRange i, (h.holds n r i hr hi).1⟩
  calc u.order.length
      ≤ ((List.finRange 4).filterMap (fun i => u.slots[i].stop)).length := (h.nodup.subperm hsubset).length_le
    _ ≤ (List.finRange 4).length := List.length_filterMap_le ..
    _ = 4 := List.length_finRange

theorem Part.slotsTrue_iff {m : Part} : m.SlotsTrue ↔ m.stops.Agree := by
  constructor
  · rintro ⟨hc, hrecords, hheld, hidle, htimers, hnodup, _, hopened⟩
    have hfind : ∀ n r, Table.find m.stops.records n = some r → (n, r) ∈ m.stops.records := fun _ _ => Table.mem_of_find
    refine ⟨hc, fun n r hr => ?_, fun n r i hr hi => ?_, hheld, hidle, htimers, hnodup, hopened⟩
    · obtain ⟨hnumber, hlinger, hslot, _⟩ := hrecords _ (hfind n r hr)
      exact ⟨hnumber, hlinger, hslot⟩
    · obtain ⟨_, _, _, hholds⟩ := hrecords _ (hfind n r hr)
      exact hholds i hi
  · intro h
    refine ⟨h.canonical, fun e he => ?_, h.held, h.idle, h.timers, h.nodup, h.order_length, h.opened⟩
    have hfind := h.canonical.find_of_mem he
    obtain ⟨hnumber, hlinger, hslot⟩ := h.fits _ _ hfind
    exact ⟨hnumber, hlinger, hslot, fun i => h.holds _ _ i hfind⟩

/-- The sweep list has no part in the agreement. -/
theorem Stops.Agree.withSweep {u : Stops} (h : u.Agree) (sweep : List SweepEntry) :
    Stops.Agree { u with sweep := sweep } := { h with }

/-- A stop unit that holds nothing. -/
theorem Stops.agree_empty : Stops.Agree ⟨[], Vector.replicate 4 ⟨none, none⟩, [], []⟩ where
  canonical := Table.canonical_nil
  fits := by simp
  holds := by simp
  held := by simp
  idle := by simp
  timers := by simp
  nodup := List.nodup_nil
  opened := by simp

/-- A change of a stop record that touches its figures alone: its member count and its read count (R109). -/
def Stop.FiguresAlone (f : Stop → Stop) : Prop :=
  ∀ r, ∃ members readCount, f r = { r with members := members, readCount := readCount }

/-- Figures have no part in the agreement. -/
theorem Stops.Agree.withFigures {u : Stops} (h : u.Agree) {records : Table Stop} (hc : Table.Canonical records)
    (hfind : ∀ n, ∃ f, Stop.FiguresAlone f ∧ Table.find records n = (Table.find u.records n).map f) :
    Stops.Agree { u with records := records } := by
  have hback : ∀ n r, Table.find records n = some r → ∃ q, Table.find u.records n = some q ∧ r.number = q.number ∧
      r.lingerTime = q.lingerTime ∧ r.slot = q.slot ∧ r.state = q.state := by
    intro n r hr
    obtain ⟨f, hf, heq⟩ := hfind n
    obtain ⟨q, hq, rfl⟩ := Option.map_eq_some_iff.mp (heq ▸ hr)
    obtain ⟨_, _, hfq⟩ := hf q
    rw [hfq]
    exact ⟨q, hq, rfl, rfl, rfl, rfl⟩
  have hforth : ∀ n q, Table.find u.records n = some q → ∃ r, Table.find records n = some r ∧ r.slot = q.slot ∧
      r.state = q.state := by
    intro n q hq
    obtain ⟨f, hf, heq⟩ := hfind n
    obtain ⟨_, _, hfq⟩ := hf q
    exact ⟨f q, by simp [heq, hq], by rw [hfq], by rw [hfq]⟩
  refine { h with
    canonical := hc
    fits := fun n r hr => ?_
    holds := fun n r i hr hi => ?_
    held := fun i n hi => ?_
    opened := fun n => ?_ }
  · obtain ⟨q, hq, hnumber, hlinger, hslot, hstate⟩ := hback n r hr
    obtain ⟨hn, hl, hs⟩ := h.fits n q hq
    exact ⟨hnumber.trans hn, hlinger.trans_le hl, by rw [hslot, hstate]; exact hs⟩
  · obtain ⟨q, hq, _, _, hslot, hstate⟩ := hback n r hr
    rw [hstate]
    exact h.holds n q i hq (hslot.symm.trans hi)
  · obtain ⟨q, hq, hslot⟩ := h.held i n hi
    obtain ⟨r, hr, hrslot, _⟩ := hforth n q hq
    exact ⟨r, hr, hrslot.trans hslot⟩
  · refine (h.opened n).trans ⟨?_, ?_⟩
    · rintro ⟨q, hq, hopened⟩
      obtain ⟨r, hr, _, hstate⟩ := hforth n q hq
      exact ⟨r, hr, hstate.trans hopened⟩
    · rintro ⟨r, hr, hopened⟩
      obtain ⟨q, hq, _, _, _, hstate⟩ := hback n r hr
      exact ⟨q, hq, hstate.symm.trans hopened⟩

theorem Stops.getElem_setSlot (i j : Fin 4) (s : Slot) (u : Stops) :
    (u.setSlot i s).slots[j] = if j = i then s else u.slots[j] := by
  simp only [Stops.setSlot, Fin.getElem_fin, Vector.getElem_set, Fin.ext_iff, eq_comm]

/-- What a slot becomes when a stop takes it, keeps it in LINGER, or gives it up. -/
inductive Slot.Suits (i : Fin 4) (n : Nat) (r : Stop) (s : Slot) : Prop
  | taken (hslot : r.slot = some i) (hstop : s.stop = some n) (htimer : s.timer.isSome = true ↔ r.state = .lingering)
      (hrange : ∀ t, s.timer = some t → 1 ≤ t.left ∧ t.left ≤ 255)
  | freed (hslot : r.slot = none) (hs : s = ⟨none, none⟩)

/-- A stop changes, with the slot it takes, keeps or gives up. -/
structure Stops.Changes (u : Stops) (n : Nat) (r : Stop) (f : Stop → Stop) (i : Fin 4) (s : Slot) : Prop where
  found : Table.find u.records n = some r
  fits : (f r).Fits n
  own : ∀ j, r.slot = some j → j = i
  slot : u.slots[i].stop = none ∨ u.slots[i].stop = some n
  suits : s.Suits i n (f r)

/-- The stop unit after a stop's change. -/
def Stops.changed (n : Nat) (f : Stop → Stop) (i : Fin 4) (s : Slot) (order : List Nat) (u : Stops) : Stops :=
  { (u.onRecord n f).setSlot i s with order := order }

theorem Stops.getElem_changed (n : Nat) (f : Stop → Stop) (i j : Fin 4) (s : Slot) (order : List Nat) (u : Stops) :
    (u.changed n f i s order).slots[j] = if j = i then s else u.slots[j] := (u.onRecord n f).getElem_setSlot i j s

theorem Stops.find_changed_of_ne {n q : Nat} (hq : q ≠ n) (f : Stop → Stop) (i : Fin 4) (s : Slot) (order : List Nat)
    (u : Stops) : Table.find (u.changed n f i s order).records q = Table.find u.records q :=
  (Table.find_modify ..).trans (if_neg hq)

section
variable {u : Stops} {n : Nat} {r : Stop} {f : Stop → Stop} {i : Fin 4} {s : Slot}

theorem Stops.Changes.find_changed (hch : u.Changes n r f i s) (order : List Nat) :
    Table.find (u.changed n f i s order).records n = some (f r) := by
  have hfind := Table.find_modify n f u.records n
  rwa [if_pos rfl, hch.found] at hfind

/-- Another stop's slot is not the one that changes. -/
theorem Stops.Changes.ne_slot (hch : u.Changes n r f i s) {q : Nat} {j : Fin 4} (hq : q ≠ n)
    (hj : u.slots[j].stop = some q) : j ≠ i := by
  rintro rfl
  obtain hslot | hslot := hch.slot <;> rw [hslot] at hj <;> cases hj
  exact hq rfl

theorem Stops.Changes.fits_changed (hch : u.Changes n r f i s) (h : u.Agree) (order : List Nat) {q : Nat} {w : Stop}
    (hw : Table.find (u.changed n f i s order).records q = some w) : w.Fits q := by
  by_cases hq : q = n
  · subst hq
    cases (hch.find_changed order).symm.trans hw
    exact hch.fits
  · exact h.fits q w ((Stops.find_changed_of_ne hq ..).symm.trans hw)

theorem Stops.Changes.holds_changed (hch : u.Changes n r f i s) (h : u.Agree) (order : List Nat) {q : Nat} {w : Stop}
    {j : Fin 4} (hw : Table.find (u.changed n f i s order).records q = some w) (hj : w.slot = some j) :
    (u.changed n f i s order).slots[j].stop = some q ∧
      ((u.changed n f i s order).slots[j].timer.isSome = true ↔ w.state = .lingering) := by
  rw [Stops.getElem_changed]
  by_cases hq : q = n
  · subst hq
    cases (hch.find_changed order).symm.trans hw
    cases hch.suits
    case taken hslot hstop htimer _ =>
      cases hslot.symm.trans hj
      rw [if_pos rfl]
      exact ⟨hstop, htimer⟩
    case freed hslot _ => cases hslot.symm.trans hj
  · have hholds := h.holds q w j ((Stops.find_changed_of_ne hq ..).symm.trans hw) hj
    rw [if_neg (hch.ne_slot hq hholds.1)]
    exact hholds

theorem Stops.Changes.held_changed (hch : u.Changes n r f i s) (h : u.Agree) (order : List Nat) {q : Nat} {j : Fin 4}
    (hj : (u.changed n f i s order).slots[j].stop = some q) :
    ∃ w, Table.find (u.changed n f i s order).records q = some w ∧ w.slot = some j := by
  rw [Stops.getElem_changed] at hj
  split_ifs at hj with hji
  · subst hji
    cases hch.suits
    case taken hslot hstop _ _ =>
      cases hstop.symm.trans hj
      exact ⟨f r, hch.find_changed order, hslot⟩
    case freed hs =>
      rw [hs] at hj
      cases hj
  · obtain ⟨w, hw, hwslot⟩ := h.held j q hj
    have hq : q ≠ n := by
      rintro rfl
      cases hch.found.symm.trans hw
      exact hji (hch.own j hwslot)
    exact ⟨w, (Stops.find_changed_of_ne hq ..).trans hw, hwslot⟩

theorem Stops.Changes.idle_changed (hch : u.Changes n r f i s) (h : u.Agree) (order : List Nat) {j : Fin 4}
    (hj : (u.changed n f i s order).slots[j].stop = none) : (u.changed n f i s order).slots[j].timer = none := by
  rw [Stops.getElem_changed] at hj ⊢
  split_ifs at hj ⊢
  · cases hch.suits
    case taken hstop _ _ => cases hstop.symm.trans hj
    case freed hs => rw [hs]
  · exact h.idle j hj

theorem Stops.Changes.timers_changed (hch : u.Changes n r f i s) (h : u.Agree) (order : List Nat) {j : Fin 4} {t : Timer}
    (ht : (u.changed n f i s order).slots[j].timer = some t) : 1 ≤ t.left ∧ t.left ≤ 255 := by
  rw [Stops.getElem_changed] at ht
  split_ifs at ht
  · cases hch.suits
    case taken hrange => exact hrange t ht
    case freed hs =>
      rw [hs] at ht
      cases ht
  · exact h.timers j t ht

theorem Stops.Changes.opened_changed (hch : u.Changes n r f i s) (h : u.Agree) {order : List Nat}
    (hothers : ∀ q, q ≠ n → (q ∈ order ↔ q ∈ u.order)) (hself : n ∈ order ↔ (f r).state = .opened) (q : Nat) :
    q ∈ order ↔ ∃ w, Table.find (u.changed n f i s order).records q = some w ∧ w.state = .opened := by
  by_cases hq : q = n
  · subst hq
    rw [hch.find_changed, hself]
    exact ⟨fun hopened => ⟨f r, rfl, hopened⟩, by rintro ⟨_, ⟨⟩, hopened⟩; exact hopened⟩
  · rw [Stops.find_changed_of_ne hq, hothers q hq]
    exact h.opened q

/-- One stop changes, with its slot and the opening order (R112, R114, R116). -/
theorem Stops.Agree.change (h : u.Agree) (hch : u.Changes n r f i s) {order : List Nat} (hnodup : order.Nodup)
    (hothers : ∀ q, q ≠ n → (q ∈ order ↔ q ∈ u.order)) (hself : n ∈ order ↔ (f r).state = .opened) :
    (u.changed n f i s order).Agree where
  canonical := h.canonical.modify n f
  fits _ _ := hch.fits_changed h order
  holds _ _ _ := hch.holds_changed h order
  held _ _ := hch.held_changed h order
  idle _ := hch.idle_changed h order
  timers _ _ := hch.timers_changed h order
  nodup := hnodup
  opened := hch.opened_changed h hothers hself

end

theorem mem_filter_bne {n q : Nat} (l : List Nat) (hq : q ≠ n) : q ∈ l.filter (fun k => k != n) ↔ q ∈ l := by
  simp [hq]

/-- An OPEN or LINGER stop and its slot. -/
theorem Stops.Agree.slot_of {u : Stops} (h : u.Agree) {n : Nat} {r : Stop} (hr : Table.find u.records n = some r)
    (hopen : r.state = .opened ∨ r.state = .lingering) : ∃ i, r.slot = some i ∧ u.slots[i].stop = some n := by
  obtain ⟨i, hi⟩ := Option.isSome_iff_exists.mp ((h.fits n r hr).slot.mpr hopen)
  exact ⟨i, hi, (h.holds n r i hr hi).1⟩

/-- A stop that opens takes a free slot and joins the opening order's end (R112). -/
theorem Stops.Agree.openIn {u : Stops} (h : u.Agree) {n : Nat} {r : Stop} (hr : Table.find u.records n = some r)
    (hpending : r.state = .pending) {i : Fin 4} (hfree : u.slots[i].stop = none) (clock : Word32) :
    (u.openIn i clock n).Agree := by
  obtain ⟨hnumber, hlinger, hslot⟩ := h.fits n r hr
  have hnone : r.slot = none := by
    rw [← Option.not_isSome_iff_eq_none, hslot, hpending]
    decide
  have hclosed : n ∉ u.order := by
    rw [h.opened]
    rintro ⟨q, hq, hopened⟩
    cases hr.symm.trans hq
    rw [hpending] at hopened
    cases hopened
  have hchange : u.Changes n r (fun q => { q with state := .opened, slot := some i, openTime := some clock }) i
      ⟨some n, none⟩ :=
    ⟨hr, ⟨hnumber, hlinger, by simp⟩, by simp [hnone], .inl hfree, .taken rfl rfl (by simp) (by simp)⟩
  refine h.change hchange (order := u.order ++ [n]) ?_ ?_ ?_
  · exact h.nodup.append (List.nodup_singleton n) (by simpa using hclosed)
  · intro q hq
    simp [hq]
  · simp

/-- A LINGER close keeps the stop's slot, with a timer, and takes the stop out of the opening order (R116). -/
theorem Stops.Agree.startLinger {u : Stops} (h : u.Agree) {r : Stop} (hr : Table.find u.records r.number = some r)
    (hopen : r.state = .opened ∨ r.state = .lingering) (htime : r.lingerTime ≠ 0) : (u.startLinger r).Agree := by
  obtain ⟨i, hi, hstop⟩ := h.slot_of hr hopen
  obtain ⟨hnumber, hlinger, _⟩ := h.fits _ r hr
  have hchange : u.Changes r.number r (fun q => { q with state := .lingering }) i
      ⟨some r.number, some (Timer.start r.lingerTime)⟩ :=
    ⟨hr, ⟨hnumber, hlinger, by simp [hi]⟩, by simp [hi], .inr hstop,
      .taken hi rfl (by simp) (by rintro t ⟨⟩; exact ⟨Nat.one_le_iff_ne_zero.mpr htime, hlinger⟩)⟩
  unfold Stops.startLinger
  rw [hi]
  exact h.change hchange (h.nodup.filter _) (fun q => mem_filter_bne u.order) (by simp)

/-- A close frees the stop's slot and takes the stop out of the opening order (R114). -/
theorem Stops.Agree.shut {u : Stops} (h : u.Agree) {r : Stop} (hr : Table.find u.records r.number = some r)
    (hopen : r.state = .opened ∨ r.state = .lingering) : (u.shut r).Agree := by
  obtain ⟨i, hi, hstop⟩ := h.slot_of hr hopen
  obtain ⟨hnumber, hlinger, _⟩ := h.fits _ r hr
  have hchange : u.Changes r.number r (fun q => { q with state := .closed, slot := none }) i ⟨none, none⟩ :=
    ⟨hr, ⟨hnumber, hlinger, by simp⟩, by simp [hi], .inr hstop, .freed rfl rfl⟩
  unfold Stops.shut
  rw [hi]
  exact h.change hchange (h.nodup.filter _) (fun q => mem_filter_bne u.order) (by simp)

/-- A loaded stop is PENDING and holds no slot (R24). -/
theorem Stops.Agree.load {u : Stops} (h : u.Agree) {f : LoadStopFields} (hnew : Table.find u.records f.stop = none)
    (htime : f.lingerTime ≤ 255) (position : Nat) :
    Stops.Agree { u with records := Table.put f.stop (.loaded f position) u.records } := by
  have hfind : ∀ n r, Table.find (Table.put f.stop (Stop.loaded f position) u.records) n = some r ↔
      (n = f.stop ∧ r = .loaded f position) ∨ Table.find u.records n = some r := by
    intro n r
    by_cases hn : n = f.stop
    · subst hn
      simp [hnew, eq_comm]
    · simp [Table.find_put_of_ne hn, hn]
  refine { h with
    canonical := h.canonical.put ..
    fits := fun n r hr => ?_
    holds := fun n r i hr hi => ?_
    held := fun i n hi => ?_
    opened := fun n => ?_ }
  · obtain ⟨rfl, rfl⟩ | hr := (hfind n r).mp hr
    · exact ⟨rfl, htime, by simp [Stop.loaded]⟩
    · exact h.fits n r hr
  · obtain ⟨rfl, rfl⟩ | hr := (hfind n r).mp hr
    · cases hi
    · exact h.holds n r i hr hi
  · obtain ⟨r, hr, hslot⟩ := h.held i n hi
    exact ⟨r, (hfind n r).mpr (.inr hr), hslot⟩
  · refine (h.opened n).trans ⟨?_, ?_⟩
    · rintro ⟨r, hr, hopened⟩
      exact ⟨r, (hfind n r).mpr (.inr hr), hopened⟩
    · rintro ⟨r, hr, hopened⟩
      obtain ⟨rfl, rfl⟩ | hr := (hfind n r).mp hr
      · cases hopened
      · exact ⟨r, hr, hopened⟩

/-- END ROUTE closes every stop that is OPEN or in LINGER, and frees every slot (R127). -/
theorem Stops.Agree.endRoute {u : Stops} (h : u.Agree) : u.endRoute.Agree := by
  have hback : ∀ n r, Table.find u.endRoute.records n = some r →
      r.number = n ∧ r.lingerTime ≤ 255 ∧ r.slot = none ∧ r.state ≠ .opened ∧ r.state ≠ .lingering := by
    intro n r hr
    rw [Stops.endRoute, Table.find_mapValues] at hr
    obtain ⟨q, hq, rfl⟩ := Option.map_eq_some_iff.mp hr
    obtain ⟨hnumber, hlinger, hslot⟩ := h.fits n q hq
    split_ifs with hopen
    · exact ⟨hnumber, hlinger, rfl, by simp, by simp⟩
    · rw [← hslot, Bool.not_eq_true, Option.isSome_eq_false_iff, Option.isNone_iff_eq_none] at hopen
      have hstates : ¬ (q.state = .opened ∨ q.state = .lingering) := by simp [← hslot, hopen]
      exact ⟨hnumber, hlinger, hopen, fun hs => hstates (.inl hs), fun hs => hstates (.inr hs)⟩
  have hc : Table.Canonical u.endRoute.records := by
    unfold Stops.endRoute
    dsimp only
    exact h.canonical.mapValues _
  refine ⟨hc, fun n r hr => ?_, fun n r i hr hi => ?_, by simp [Stops.endRoute], by simp [Stops.endRoute],
    by simp [Stops.endRoute], List.nodup_nil, fun n => ?_⟩
  · obtain ⟨hnumber, hlinger, hslot, hopened, hlingering⟩ := hback n r hr
    exact ⟨hnumber, hlinger, by simp [hslot, hopened, hlingering]⟩
  · obtain ⟨_, _, hslot, _, _⟩ := hback n r hr
    cases hslot.symm.trans hi
  · refine iff_of_false List.not_mem_nil ?_
    rintro ⟨r, hr, hopened⟩
    obtain ⟨_, _, _, hnot, _⟩ := hback n r hr
    exact hnot hopened

/-- A second's end moves the linger timers within their range (R118). -/
theorem Stops.Agree.tick {u v : Stops} (h : u.Agree) (hrecords : v.records = u.records) (horder : v.order = u.order)
    (hslots : ∀ i : Fin 4, v.slots[i] = u.slots[i].tick) : v.Agree := by
  have hstop : ∀ i : Fin 4, v.slots[i].stop = u.slots[i].stop := fun i => by rw [hslots]; rfl
  have htimer : ∀ i : Fin 4, v.slots[i].timer = u.slots[i].timer.map Timer.tick := fun i => by rw [hslots]; rfl
  refine ⟨hrecords ▸ h.canonical, hrecords ▸ h.fits, ?_, ?_, ?_, ?_, horder ▸ h.nodup, ?_⟩
  · intro n r i hr hi
    rw [hstop, htimer, Option.isSome_map]
    exact h.holds n r i (hrecords ▸ hr) hi
  · intro i n hi
    rw [hrecords]
    exact h.held i n (hstop i ▸ hi)
  · intro i hi
    rw [htimer, h.idle i (hstop i ▸ hi)]
    rfl
  · intro i t ht
    rw [htimer] at ht
    obtain ⟨w, hw, rfl⟩ := Option.map_eq_some_iff.mp ht
    exact w.tick_range 255 (h.timers i w hw)
  · rw [hrecords, horder]
    exact h.opened

end Sys2Proof.Machine
end

section
/-! SUPPORT. What every effect makes of the stop unit (R108, R110, R111, R116). -/

namespace Sys2Proof.Machine

/-! What leaves the stop unit, its sweep list aside -/

@[simp] theorem Part.offerAlert_stops (a : Alert) (m : Part) : (m.offerAlert a).stops = m.stops := by
  obtain ⟨alerts, stalled, events, heq, _, _⟩ := m.offerAlert_cases a
  rw [heq]
  rfl

@[simp] theorem Part.tamperOutcome_stops (p : Nat) (r : Member) (inds : IndicatorSet) (m : Part) :
    (m.tamperOutcome p r inds).part.stops = m.stops := by
  unfold Part.tamperOutcome
  dsimp only
  split_ifs
  · rfl
  · exact Part.offerAlert_stops ..

theorem reportEach_stops (l : List (Nat × Member)) (m : Part) : (l.foldl Part.reportDeferred m).stops = m.stops := by
  induction l generalizing m with
  | nil => rfl
  | cons e rest ih => exact (ih _).trans (Part.offerAlert_stops ..)

theorem Part.reportStop_stops (stop : Nat) (m : Part) : (m.reportStop stop).stops = m.stops := reportEach_stops ..

theorem Part.reportAll_stops (m : Part) : m.reportAll.stops = m.stops := reportEach_stops ..

/-- The stop units differ in their sweep lists alone. -/
def SweepsAlone (u v : Stops) : Prop := ∃ sweep, v = { u with sweep := sweep }

theorem SweepsAlone.refl (u : Stops) : SweepsAlone u u := ⟨_, rfl⟩

theorem SweepsAlone.trans {u v w : Stops} : SweepsAlone u v → SweepsAlone v w → SweepsAlone u w := by
  rintro ⟨_, rfl⟩ ⟨_, rfl⟩
  exact ⟨_, rfl⟩

theorem SweepsAlone.agree {u v : Stops} (h : SweepsAlone u v) (hu : u.Agree) : v.Agree := by
  obtain ⟨sweep, rfl⟩ := h
  exact hu.withSweep sweep

theorem foldl_closing_sweeps {g : Closing → Nat × Member → Closing}
    (hg : ∀ c e, SweepsAlone c.part.stops (g c e).part.stops) (l : List (Nat × Member)) (c : Closing) :
    SweepsAlone c.part.stops (l.foldl g c).part.stops := by
  induction l generalizing c with
  | nil => exact .refl _
  | cons e rest ih => exact (hg c e).trans (ih _)

theorem dropMember_sweeps (c : Closing) (e : Nat × Member) : SweepsAlone c.part.stops (dropMember c e).part.stops := by
  simpa [dropMember] using .refl _

theorem carryMember_sweeps (c : Closing) (e : Nat × Member) : SweepsAlone c.part.stops (carryMember c e).part.stops := by
  unfold carryMember
  split_ifs
  · exact ⟨_, by rw [Part.onStops_stops, Part.setReadState_stops]⟩
  · exact ⟨_, by rw [Part.setReadState_stops]⟩

theorem disposeMembers_sweeps (stop : Nat) (drop : Bool) (m : Part) :
    SweepsAlone m.stops (m.disposeMembers stop drop).part.stops := by
  have hcarry := foldl_closing_sweeps carryMember_sweeps (m.unreadOf stop) ⟨m, 0, 0⟩
  unfold Part.disposeMembers
  dsimp only
  split_ifs
  · exact foldl_closing_sweeps dropMember_sweeps _ ⟨m, 0, 0⟩
  · exact hcarry
  · exact hcarry

theorem Stops.shut_withSweep (r : Stop) (u : Stops) (sweep : List SweepEntry) :
    Stops.shut r { u with sweep := sweep } = { u.shut r with sweep := sweep } := by
  unfold Stops.shut
  cases r.slot <;> rfl

/-- A close shuts the stop, and carries members to the sweep list (R114). -/
theorem closeStop_stops (r : Stop) (drop : Bool) (m : Part) :
    SweepsAlone (m.stops.shut r) (m.closeStop r drop).part.stops := by
  obtain ⟨sweep, h⟩ := disposeMembers_sweeps r.number drop m
  refine ⟨sweep, ?_⟩
  rw [Part.closeStop]
  dsimp only
  rw [Part.reportStop_stops, Part.onStops_stops, h, Stops.shut_withSweep]

theorem ItemsTouched.stops {m n : Part} : ItemsTouched m n → n.stops = m.stops := by
  rintro ⟨_, _, _, rfl, _⟩
  rfl

theorem returnEach_touches (l : List Batch) (m : Part) : ItemsTouched m (l.foldl (fun m b => m.returnBatch b) m) := by
  induction l generalizing m with
  | nil => exact ⟨m.store, m.upload, m.strangers, rfl, rfl, rfl, rfl⟩
  | cons b rest ih => exact (returnBatch_touches b m).trans (ih _)

theorem Part.returnBatches_stops (m : Part) : m.returnBatches.stops = m.stops := (returnEach_touches ..).stops

theorem Part.hearStranger_stops (q : Queued) (lead : Option Nat) (m : Part) : (m.hearStranger q lead).stops = m.stops := by
  obtain ⟨t, events, h⟩ := m.hearStranger_cases q lead
  rw [h]
  rfl

theorem Part.laterHearing_stops (p : Nat) (r : Member) (index : Nat) (e : Record) (q : Queued) (m : Part) :
    (m.laterHearing p r index e q).stops = m.stops := Part.tamperOutcome_stops ..

/-! Closes -/

theorem closeStop_agree {m : Part} (h : m.stops.Agree) {r : Stop} (hr : m.stop r.number = some r)
    (hopen : r.state = .opened ∨ r.state = .lingering) (drop : Bool) : (m.closeStop r drop).part.stops.Agree :=
  (closeStop_stops r drop m).agree (h.shut hr hopen)

/-- A close changes no other stop's record. -/
theorem closeStop_stop_of_ne {n : Nat} {r : Stop} (hn : n ≠ r.number) (drop : Bool) (m : Part) :
    (m.closeStop r drop).part.stop n = m.stop n := by
  obtain ⟨sweep, h⟩ := closeStop_stops r drop m
  have hshut : Table.find (m.stops.shut r).records n = Table.find m.stops.records n := by
    unfold Stops.shut
    cases r.slot <;> simp [Stops.onRecord, Stops.setSlot, Table.find_modify, hn]
  rw [Part.stop, h]
  exact hshut

/-- Stops in LINGER closed one after another. -/
theorem closeEach_agree {l : List Stop} {m : Part} (h : m.stops.Agree) (hnodup : (l.map Stop.number).Nodup)
    (hl : ∀ r ∈ l, m.stop r.number = some r ∧ r.state = .lingering) :
    (l.foldl (fun m r => (m.closeStop r false).part) m).stops.Agree := by
  induction l generalizing m with
  | nil => exact h
  | cons r rest ih =>
    obtain ⟨hr, hlingering⟩ := hl r List.mem_cons_self
    obtain ⟨hnew, hrest⟩ := List.nodup_cons.mp hnodup
    refine ih (closeStop_agree h hr (.inr hlingering) false) hrest fun q hq => ?_
    have hne : q.number ≠ r.number := fun heq => hnew (heq ▸ List.mem_map_of_mem hq)
    rw [closeStop_stop_of_ne hne]
    exact hl q (List.mem_cons_of_mem _ hq)

theorem Stops.Agree.lingering {u : Stops} (h : u.Agree) : (u.lingering.map Stop.number).Nodup ∧
    ∀ r ∈ u.lingering, Table.find u.records r.number = some r ∧ r.state = .lingering := by
  have hmem : ∀ e ∈ u.records, Table.find u.records e.1 = some e.2 ∧ e.2.number = e.1 := fun e he =>
    ⟨h.canonical.find_of_mem he, (h.fits _ _ (h.canonical.find_of_mem he)).number⟩
  constructor
  · have hnumbers : (u.records.map Prod.snd).map Stop.number = u.records.map Prod.fst := by
      rw [List.map_map]
      exact List.map_congr_left fun e he => (hmem e he).2
    refine List.Nodup.sublist (List.filter_sublist.map _) ?_
    rw [hnumbers]
    exact h.canonical.imp fun hlt => Nat.ne_of_lt hlt
  · intro r hr
    obtain ⟨hr, hlingering⟩ := List.mem_filter.mp hr
    obtain ⟨e, he, rfl⟩ := List.mem_map.mp hr
    rw [(hmem e he).2]
    exact ⟨(hmem e he).1, by simpa using hlingering⟩

theorem closeLingering_agree {m : Part} (h : m.stops.Agree) : m.closeLingering.stops.Agree :=
  closeEach_agree h h.lingering.1 h.lingering.2

/-! Effects -/

/-- A stop that a LINGER close lets linger has a linger time (R113). -/
theorem lingerTime_of_effectiveMode {r : Stop} {override : Option CloseMode} (h : effectiveMode r override = .linger) :
    r.lingerTime ≠ 0 := by
  intro htime
  unfold effectiveMode at h
  split at h
  · split_ifs at h
  · split at h <;> simp [htime] at h

theorem freeSlot_free {u : Stops} {i : Fin 4} (h : u.freeSlot = some i) : u.slots[i].stop = none := by
  simpa using List.find?_some h

theorem Stop.figuresAlone_read : Stop.FiguresAlone (fun s => { s with readCount := s.readCount + 1 }) :=
  fun _ => ⟨_, _, rfl⟩

theorem Stop.figuresAlone_id : Stop.FiguresAlone id := fun _ => ⟨_, _, rfl⟩

theorem Stops.Agree.modifyFigures {u : Stops} (h : u.Agree) {f : Stop → Stop} (hf : Stop.FiguresAlone f) (n : Nat) :
    Stops.Agree { u with records := Table.modify n f u.records } := by
  refine h.withFigures (h.canonical.modify n f) fun q => ?_
  rw [Table.find_modify]
  split_ifs
  · exact ⟨f, hf, rfl⟩
  · exact ⟨id, Stop.figuresAlone_id, Option.map_id.symm ▸ rfl⟩

theorem Stops.Agree.mapFigures {u : Stops} (h : u.Agree) {f : Stop → Stop} (hf : Stop.FiguresAlone f) :
    Stops.Agree { u with records := Table.mapValues f u.records } :=
  h.withFigures (h.canonical.mapValues f) fun n => ⟨f, hf, Table.find_mapValues f u.records n⟩

theorem firstHearing_agree {m : Part} (h : m.stops.Agree) (p : Nat) (r : Member) (q : Queued) :
    (m.firstHearing p r q).stops.Agree := by
  unfold Part.firstHearing
  dsimp only
  rw [Part.onStops_stops, Part.onMember_stops, Part.setReadState_stops]
  dsimp only
  rw [Part.tamperOutcome_stops]
  exact (h.modifyFigures Stop.figuresAlone_read r.stop).withSweep _

theorem hear_agree {m : Part} (h : m.stops.Agree) (q : Queued) : (m.hear q).stops.Agree := by
  unfold Part.hear
  split
  · rwa [Part.hearStranger_stops]
  · split_ifs
    · split
      · exact h
      · split
        · exact h
        · rwa [Part.laterHearing_stops]
    · exact firstHearing_agree h ..

theorem skipHead_sweeps (e : SweepEntry) (rest : List SweepEntry) (m : Part) :
    SweepsAlone m.stops (m.skipHead e rest).stops := by
  obtain ⟨_, h⟩ | ⟨p, r, _, h⟩ := skipHead_cases e rest m
  · exact ⟨rest, by rw [h]; rfl⟩
  · exact ⟨rest, by rw [h, Part.setReadState_stops]; rfl⟩

theorem loadStopOf_lingerTime {body : List Byte} {f : LoadStopFields} (h : loadStopOf body = some f) :
    f.lingerTime ≤ 255 := by
  unfold loadStopOf at h
  split_ifs at h
  obtain ⟨_, _, h⟩ := Option.bind_eq_some_iff.mp h
  obtain ⟨_, _, h⟩ := Option.bind_eq_some_iff.mp h
  cases h
  exact Nat.le_of_lt_succ (byteAt body 3).isLt

theorem Routine.agree {m n : Part} (h : Routine m n) (hm : m.stops.Agree) : n.stops.Agree := by
  have hnumber : ∀ {n r}, m.stop n = some r → m.stop r.number = some r := fun hr => by rwa [(hm.fits _ _ hr).number]
  cases h
  case none | acknowledge | setPass | clearTamper | queueTelegram | clearVolatile => exact hm
  case openStop hstop hpending hslot => exact hm.openIn hstop hpending (freeSlot_free hslot) _
  case startLinger hstop hopen hmode => exact hm.startLinger (hnumber hstop) hopen (lingerTime_of_effectiveMode hmode)
  case closeStop hstop hopen _ => exact closeStop_agree hm (hnumber hstop) hopen _
  case expireLinger hslot hstop _ _ =>
    obtain ⟨q, hq, hqslot⟩ := hm.held _ _ hslot
    cases hstop.symm.trans hq
    exact closeStop_agree hm (hnumber hstop) ((hm.fits _ _ hstop).slot.mp (by rw [hqslot]; rfl)) _
  case nextBatch =>
    have hitems := (setItems_touches .batched (some m.upload.newNumber) (m.freshItems.take Config.batchItems) m).stops
    exact hitems.symm ▸ hm
  case returnBatch b _ => exact (returnBatch_touches b m).stops.symm ▸ hm
  case returnBatches => exact m.returnBatches_stops.symm ▸ hm
  case warmStart =>
    rw [Part.returnBatches_stops]
    exact closeLingering_agree (m := m.clearVolatile) hm

/-- Every effect keeps stops, slots and the opening order in agreement. -/
theorem Effect.agree {m n : Part} (h : Effect m n) (hm : m.stops.Agree) : n.stops.Agree := by
  cases h
  case routine h => exact h.agree hm
  case beginLoad | loadMember | loadProfile | loadClass | beginUpload | startRoute => exact hm
  case loadStop hbody hnew => exact hm.load hnew (loadStopOf_lingerTime hbody) _
  case finishLoad => exact hm.mapFigures fun _ => ⟨_, _, rfl⟩
  case clearRoute | coldStart => exact Stops.agree_empty
  case endRoute =>
    rw [Part.moveRoute_stops, Part.endRoute, Part.reportAll_stops]
    exact hm.endRoute
  case skipSweep => exact (skipHead_sweeps ..).agree hm
  case confirmBatch b _ _ =>
    have hitems := ((setItems_touches .confirmed (some b.number) b.items m).trans (retire_touches b.number _)).stops
    obtain h | h := finishUpload_cases (m.confirmItems b) <;> rw [h] <;> exact hitems.symm ▸ hm
  case completeTelegram e _ =>
    unfold Part.completeTelegram
    dsimp only
    split_ifs
    · exact hm
    · exact hear_agree (m := { m with intake := { m.intake with eval := none } }) hm _
  case endSecond => exact hm.tick (v := m.endSecond.stops) rfl rfl (endSecond_slot m)

theorem agree_of_sameBlocks {m n : Part} (h : m.SameBlocks n) (hm : m.stops.Agree) : n.stops.Agree := by
  obtain ⟨_, _, _, rfl⟩ := h
  exact hm

theorem step_agree {s t : State} (hs : s.part.stops.Agree) (h : step s = .next t) : t.part.stops.Agree :=
  step_keeps (fun _ _ => agree_of_sameBlocks) (fun _ _ => Effect.agree) h hs

/-- Settles O5: an entry joins a queue where it has room, and stops and slots stay in agreement, so that the opening order lists no
more stops than there are slots. -/
theorem queuesStayWithinPlaces : Obligations.QueuesStayWithinPlaces :=
  ⟨fun _ _ => step_withinPlaces, fun _ _ hs h => (step_agree (Part.slotsTrue_iff.mp hs) h).order_length⟩

end Sys2Proof.Machine
end

section
/-! SUPPORT. The radio port and the completion of an evaluation (R41 to R58). -/

namespace Sys2Proof.Machine

/-! The radio port -/

/-- A frame that ends by its length on a radio port that takes it is judged at once (R42, R43). -/
theorem radio_becomes {s : State} (hready : Ready s .radio) {c : Instr} {code tag : Byte} {body : List Byte} {check : Word16}
    (hc : frameOfCommand c = some (.radio, .byLength code tag body check)) (hfits : body.length + 2 ≤ 64) {m : Part}
    (h : serveRadio (.byLength code tag body check) s.part = m) : Becomes c s m := by
  have hf : (RxFrame.byLength code tag body check).fits = true := by
    simpa [RxFrame.fits, Config.greatestLength] using hfits
  rw [Becomes, exec_frame_judged hc, act, frameEvent_ready hready hf, ← h]
  rfl

/-- Another code, or a failed check, is answered BADCHECK (R42, R43). -/
theorem serveRadio_badFrame {code tag : Byte} {body : List Byte} {check : Word16}
    (h : code ≠ telegramCode ∨ check ≠ frameCheck code tag body) (m : Part) :
    serveRadio (.byLength code tag body check) m = m.answerRadio tag .badCheck := by
  have hbad : code ≠ telegramCode ∨ (RxFrame.byLength code tag body check).checkHolds = false := by
    simpa [RxFrame.checkHolds] using h
  simp only [serveRadio, if_pos hbad]

/-- A body that is no telegram's is answered BADCHECK (R42). -/
theorem serveRadio_badBody (tag : Byte) {body : List Byte} (h : telegramOf body = none) (check : Word16) (m : Part) :
    serveRadio (.byLength telegramCode tag body check) m = m.answerRadio tag .badCheck := by
  simp only [serveRadio, h]
  exact ite_self _

/-- A sound TELEGRAM is tested by the route state and the intake queue (R42). -/
theorem serveRadio_telegram (tag : Byte) {body : List Byte} {t : Telegram} (h : telegramOf body = some t) (m : Part) :
    serveRadio (.byLength telegramCode tag body (frameCheck telegramCode tag body)) m = m.receiveTelegram tag t := by
  simp [serveRadio, RxFrame.checkHolds, h]

theorem receiveTelegram_idle {m : Part} (h : m.route.state ≠ .running) (tag : Byte) (t : Telegram) :
    m.receiveTelegram tag t = m.answerRadio tag .idle := if_pos h

theorem receiveTelegram_full {m : Part} (hstate : m.route.state = .running) (h : 16 ≤ m.intake.queue.length) (tag : Byte)
    (t : Telegram) : m.receiveTelegram tag t = (m.setShared evIntakeFull).answerRadio tag .full := by
  have hfull : ¬ m.intake.queue.length < Config.intakePlaces := Nat.not_lt.mpr h
  unfold Part.receiveTelegram
  rw [if_neg (not_not.mpr hstate), if_neg hfull]

theorem receiveTelegram_taken {m : Part} (hstate : m.route.state = .running) (h : m.intake.queue.length < 16) (tag : Byte)
    (t : Telegram) : m.receiveTelegram tag t = (m.queueTelegram t).answerRadio tag .taken := by
  have hroom : m.intake.queue.length < Config.intakePlaces := h
  unfold Part.receiveTelegram
  rw [if_neg (not_not.mpr hstate), if_pos hroom]

/-- A busy engine takes nothing (R46). -/
theorem queueTelegram_of_busy {m : Part} {e : Evaluation} (h : m.intake.eval = some e) (t : Telegram) :
    m.queueTelegram t = { m with intake := ⟨m.intake.queue ++ [⟨t, m.route.clock⟩], some e⟩ } := by
  simp [Part.queueTelegram, Intake.take, h]

/-- A free engine takes the head at once (R46). -/
theorem queueTelegram_of_free {m : Part} (h : m.intake.eval = none) {t : Telegram} {q : Queued} {rest : List Queued}
    (hqueue : m.intake.queue ++ [⟨t, m.route.clock⟩] = q :: rest) :
    m.queueTelegram t = { m with intake := ⟨rest, some ⟨q, false⟩⟩ } := by
  simp only [Part.queueTelegram, Intake.take, h, hqueue]

/-- Settles O21: the tests of R42 in their order, one lemma for each answer. -/
theorem radioFramesAnswered : Obligations.RadioFramesAnswered := by
  constructor
  · intro code tag body check s hready hfits hcode
    exact radio_becomes hready rfl hfits (serveRadio_badFrame (.inl hcode) s.part)
  · intro tag body check s hready hfits
    have hbecomes : ∀ {m}, serveRadio (.byLength telegramCode tag body check) s.part = m →
        Becomes (.telegram tag body check) s m := radio_becomes hready rfl hfits
    refine ⟨?_, fun t hcheck hbody => ?_⟩
    · rintro (hcheck | hbody)
      · exact hbecomes (serveRadio_badFrame (.inr hcheck) s.part)
      · exact hbecomes (serveRadio_badBody tag hbody check s.part)
    subst hcheck
    have hserved := serveRadio_telegram tag hbody s.part
    refine ⟨fun hstate => hbecomes (hserved.trans (receiveTelegram_idle hstate tag t)),
      fun hstate hfull => hbecomes (hserved.trans (receiveTelegram_full hstate hfull tag t)), fun hstate hroom => ?_⟩
    have htaken := hserved.trans (receiveTelegram_taken hstate hroom tag t)
    exact ⟨fun e he => hbecomes (htaken.trans (by rw [queueTelegram_of_busy he])),
      fun hfree q rest hqueue => hbecomes (htaken.trans (by rw [queueTelegram_of_free hfree hqueue]))⟩

/-! The completion of an evaluation -/

/-- A running part's completion ends the evaluation in flight (R48). -/
theorem telegramCompletion_becomes {s : State} (halive : s.part.alive = true) {e : Evaluation}
    (heval : s.part.intake.eval = some e) {m : Part} (h : s.part.completeTelegram e = m) :
    Becomes .telegramCompletion s m := by
  refine (act_alive halive _).trans ?_
  simp only [heval, h]

/-- Settles O22: a dropped telegram leaves the engine's next take alone. -/
theorem completionDropsTheTelegram : Obligations.CompletionDropsTheTelegram := by
  intro s halive
  refine ⟨fun hnone => ?_, fun e heval hdropped => ?_⟩
  · refine (act_alive halive _).trans ?_
    simp only [hnone]
  · exact telegramCompletion_becomes halive heval (completeTelegram_of_dropped hdropped)

end Sys2Proof.Machine
end

section
/-! SUPPORT. A hearing of a member (R10, R52 to R58): the parts of the state that it writes. -/

namespace Sys2Proof.Machine

/-! The tamper outcome -/

/-- An alert entry is offered to the tamper unit and the ports, whatever the other blocks hold (R96, R97). -/
theorem offerAlert_of_same {m n : Part} (htamper : n.tamper = m.tamper) (hports : n.ports = m.ports) (a : Alert) :
    n.offerAlert a = { n with tamper := (m.offerAlert a).tamper, ports := (m.offerAlert a).ports } := by
  obtain ⟨_, _, _, tamper, _, _, _, _, _, ports, _, _⟩ := n
  dsimp only at htamper hports
  subst htamper hports
  unfold Part.offerAlert
  dsimp only
  split_ifs <;> rfl

/-- The part to which a hearing's prompt entry, if one is due, has been offered (R92). -/
def Part.prompted (r : Member) (inds : IndicatorSet) (m : Part) : Part :=
  let fired := m.tamper.fired inds
  let classes := promptClasses m.tamper fired (m.stopState r.stop == some .closed)
  if classes = 0 then m
  else m.offerAlert ⟨r.key, r.stop, classes, inds &&& m.tamper.masks classes, .prompt, m.route.clock⟩

/-- The directory after the tamper outcome of the member at a position (R87, R88, R89, R93). -/
def Part.tampered (position : Nat) (r : Member) (inds : IndicatorSet) (m : Part) : Table Member :=
  Table.modify position (Member.heard m.tamper (m.tamper.fired inds) (m.stopState r.stop == some .closed)) m.dir.ways

/-- A hearing's tamper outcome writes the member's tamper fields, the alert queue with STALLED, and events; the intake has no part
in it (R86). -/
theorem tamperOutcome_eq (p : Nat) (r : Member) (inds : IndicatorSet) (m : Part) (k : Intake) :
    Part.tamperOutcome p r inds { m with intake := k } = ⟨{ m with
      intake := k
      dir := { m.dir with ways := m.tampered p r inds }
      tamper := (m.prompted r inds).tamper
      ports := (m.prompted r inds).ports }, m.tamper.fired inds⟩ := by
  have hoffer := offerAlert_of_same (m := m)
    (n := { m with intake := k, dir := { m.dir with ways := m.tampered p r inds } }) rfl rfl
  have hstop : Part.stopState { m with intake := k } r.stop = m.stopState r.stop := rfl
  unfold Part.tamperOutcome Part.prompted
  dsimp only
  rw [hstop]
  split_ifs
  · rfl
  · exact congrArg (TamperOutcome.mk · _) (hoffer _)

/-! Hearings -/

/-- A telegram that is not dropped is heard, and the engine takes the next head (R46, R48). -/
theorem completeTelegram_of_heard {m : Part} {e : Evaluation} (hvoid : e.void = false) (hstate : m.route.state = .running) :
    m.completeTelegram e =
      { Part.hear e.queued { m with intake := { m.intake with eval := none } } with intake := m.intake.afterEnd } := by
  have hintake := (hear_attends e.queued { m with intake := { m.intake with eval := none } }).intake
  unfold Part.completeTelegram
  dsimp only
  rw [if_neg (by simp [hvoid, hstate]), hintake, Intake.take_free]

theorem hear_first {m : Part} {q : Queued} {p : Nat} {r : Member} (h : m.dir.lookup q.telegram.key = some (p, r))
    (hr : r.readState ≠ .read) : m.hear q = m.firstHearing p r q := by
  unfold Part.hear
  rw [h]
  exact if_neg hr

theorem hear_later {m : Part} {q : Queued} {p : Nat} {r : Member} (h : m.dir.lookup q.telegram.key = some (p, r))
    (hr : r.readState = .read) {i : Nat} (hi : r.record = some i) {old : Record} (hold : m.store[i]? = some old) :
    m.hear q = m.laterHearing p r i old q := by
  unfold Part.hear
  rw [h]
  dsimp only
  rw [if_pos hr, hi]
  dsimp only
  rw [hold]

theorem setReadState_of_find {m : Part} {p : Nat} {old : Member} (h : Table.find m.dir.ways p = some old) (q : ReadState) :
    m.setReadState p q = { m with dir :=
      { ways := Table.modify p (fun e => { e with readState := q }) m.dir.ways
        counts := (m.dir.counts.lower old.readState).raise q } } := by
  unfold Part.setReadState
  rw [h]

/-- The member at a position is found under its key's lookup. -/
theorem find_of_lookup {d : Directory} (hc : Table.Canonical d.ways) {k : Key} {p : Nat} {r : Member}
    (h : d.lookup k = some (p, r)) : Table.find d.ways p = some r := hc.find_of_mem (Directory.lookup_eq_some h).1

theorem find_tampered {m : Part} {p : Nat} {r : Member} (h : Table.find m.dir.ways p = some r) (inds : IndicatorSet) :
    Table.find (m.tampered p r inds) p =
      some (Member.heard m.tamper (m.tamper.fired inds) (m.stopState r.stop == some .closed) r) := by
  simp [Part.tampered, Table.find_modify, h]

theorem find_tampered_of_ne {n p : Nat} (h : n ≠ p) (r : Member) (inds : IndicatorSet) (m : Part) :
    Table.find (m.tampered p r inds) n = Table.find m.dir.ways n := by
  simp [Part.tampered, Table.find_modify, h]

/-- The evaluator's judgement of a first hearing (R52). -/
def Part.judged (m : Part) (r : Member) (q : Queued) : Judgement :=
  judgeFirst r.width (m.profile r.profile) r.prior (atWidth r.width q.telegram.counter) q.telegram

/-- A first hearing writes a reading record, the member, its counts, the stop unit, and what its tamper outcome writes (R52, R53). -/
theorem firstHearing_eq {m : Part} {p : Nat} {r : Member} (hfind : Table.find m.dir.ways p = some r) (q : Queued)
    (k : Intake) :
    Part.firstHearing p r q { m with intake := k } =
      { m with
        intake := k
        store := m.store ++ [Record.new m.store.length r q (atWidth r.width q.telegram.counter) m.stops.lead (m.judged r q)
          (m.tamper.fired (m.judged r q).indicators)]
        dir :=
          { ways := Table.modify p (fun e => { e with record := some m.store.length })
              (Table.modify p (fun e => { e with readState := .read }) (m.tampered p r (m.judged r q).indicators))
            counts := (m.dir.counts.lower r.readState).raise .read }
        stops := { m.stops with
          sweep := if r.readState = .carried then m.stops.sweep.filter (fun e => e.key != r.key) else m.stops.sweep
          records := Table.modify r.stop (fun s => { s with readCount := s.readCount + 1 }) m.stops.records }
        tamper := (m.prompted r (m.judged r q).indicators).tamper
        ports := (m.prompted r (m.judged r q).indicators).ports } := by
  have hjudged : judgeFirst r.width (Part.profile { m with intake := k } r.profile) r.prior
      (atWidth r.width q.telegram.counter) q.telegram = m.judged r q := rfl
  unfold Part.firstHearing
  dsimp only
  rw [hjudged, tamperOutcome_eq]
  dsimp only
  rw [setReadState_of_find (find_tampered hfind _)]
  rfl

/-- A later hearing writes the reading record and what its tamper outcome writes (R55 to R58). -/
theorem laterHearing_eq (p : Nat) (r : Member) (i : Nat) (old : Record) (q : Queued) (m : Part) (k : Intake)
    {test : IndicatorSet × Bool} (htest : judgeLater r.width (m.profile r.profile) (atWidth r.width q.telegram.counter)
      q.telegram.time ⟨old.counter, old.time⟩ = test) :
    Part.laterHearing p r i old q { m with intake := k } =
      { m with
        intake := k
        store := m.store.modify i (fun e => e.heard q.telegram (atWidth r.width q.telegram.counter) test.2
          (test.1 ||| meterFlags q.telegram) (m.tamper.fired (test.1 ||| meterFlags q.telegram)))
        dir := { m.dir with ways := m.tampered p r (test.1 ||| meterFlags q.telegram) }
        tamper := (m.prompted r (test.1 ||| meterFlags q.telegram)).tamper
        ports := (m.prompted r (test.1 ||| meterFlags q.telegram)).ports } := by
  subst htest
  unfold Part.laterHearing
  dsimp only
  rw [show Part.profile { m with intake := k } r.profile = m.profile r.profile from rfl, tamperOutcome_eq]

/-- Settles O24: the completion is a first hearing; what it writes is read off field by field. -/
theorem completionFirstHearing : Obligations.CompletionFirstHearing := by
  intro s e p r halive heval hvoid hstate hc hlookup hr
  have hfind := find_of_lookup hc hlookup
  have hheard := completeTelegram_of_heard hvoid hstate
  rw [hear_first (m := { s.part with intake := { s.part.intake with eval := none } }) hlookup hr,
    firstHearing_eq hfind] at hheard
  refine ⟨_, _, telegramCompletion_becomes halive heval hheard, ?_, fun n hn => ?_, rfl, rfl, rfl, rfl, fun n => ?_⟩
  · simp only [Table.find_modify, if_true, find_tampered hfind, Option.map_some]
    rfl
  · simp only [Table.find_modify, if_neg hn, find_tampered_of_ne hn]
  · exact Table.find_modify r.stop (fun x => { x with readCount := x.readCount + 1 }) s.part.stops.records n

/-- Settles O25: the completion is a later hearing; what it writes is read off field by field. -/
theorem completionLaterHearing : Obligations.CompletionLaterHearing := by
  intro s e p r i old halive heval hvoid hstate hc hlookup hr hi hold
  have hfind := find_of_lookup hc hlookup
  have hheard := completeTelegram_of_heard hvoid hstate
  rw [hear_later (m := { s.part with intake := { s.part.intake with eval := none } }) hlookup hr hi hold,
    laterHearing_eq p r i old e.queued s.part _ rfl] at hheard
  refine ⟨_, _, telegramCompletion_becomes halive heval hheard, find_tampered hfind _,
    fun n hn => find_tampered_of_ne hn .., rfl, ?_, fun n hn => ?_⟩
  · simp only [List.getElem?_modify, hold, if_true]
    rfl
  · simp only [List.getElem?_modify, if_neg hn.symm]
    exact Option.map_id' ..

end Sys2Proof.Machine
end

section
/-! SUPPORT. Request bodies field by field (R200, R201, R202): what the bytes of a body from an offset on spell, and what a parser
reads. -/

namespace Sys2Proof.Machine

/-! The bytes of a body from an offset on -/

section Fields

variable {body z : List Byte} {i n : Nat}

theorem byteAt_of_lt (h : i < body.length) : byteAt body i = body[i] := by
  simp [byteAt, List.getD_eq_getElem?_getD, h]

theorem drop_eq_cons_iff {b : Byte} :
    body.drop i = b :: z ↔ i < body.length ∧ byteAt body i = b ∧ body.drop (i + 1) = z := by
  by_cases h : i < body.length
  · rw [List.drop_eq_getElem_cons h, List.cons.injEq, byteAt_of_lt h]
    simp [h]
  · rw [List.drop_eq_nil_of_le (Nat.not_lt.mp h)]
    simp [h]

theorem u8_lt (body : List Byte) (i : Nat) : u8 body i < 256 := (byteAt body i).isLt

theorem u16_lt (body : List Byte) (i : Nat) : u16 body i < 65536 := by
  have hhigh := u8_lt body i
  have hlow := u8_lt body (i + 1)
  rw [u16]
  omega

theorem byte_eq_ofNat_iff {b : Byte} (h : n < 256) : b = BitVec.ofNat 8 n ↔ b.toNat = n := by
  rw [← BitVec.toNat_inj, BitVec.toNat_ofNat, Nat.mod_eq_of_lt h]

theorem drop_eq_be8_iff (h : n < 256) :
    body.drop i = be8 n ++ z ↔ i < body.length ∧ u8 body i = n ∧ body.drop (i + 1) = z := by
  rw [be8, List.singleton_append, drop_eq_cons_iff, byte_eq_ofNat_iff h]
  rfl

theorem be16_eq (n : Nat) : be16 n = be8 (n / 256 % 256) ++ be8 (n % 256) := by
  simp [be16, be8, ← BitVec.toNat_inj]

theorem drop_eq_be16_iff (h : n < 65536) :
    body.drop i = be16 n ++ z ↔ i + 1 < body.length ∧ u16 body i = n ∧ body.drop (i + 2) = z := by
  have hhigh := u8_lt body i
  have hlow := u8_lt body (i + 1)
  rw [be16_eq, List.append_assoc, drop_eq_be8_iff (Nat.mod_lt _ (by decide)), drop_eq_be8_iff (Nat.mod_lt _ (by decide)), u16]
  constructor
  · rintro ⟨_, _, hlt, _, hz⟩
    exact ⟨hlt, by omega, hz⟩
  · rintro ⟨hlt, _, hz⟩
    exact ⟨by omega, by omega, hlt, by omega, hz⟩

theorem be16_mod (n : Nat) : be16 (n % 65536) = be16 n := by
  have hhigh : n % 65536 / 256 % 256 = n / 256 % 256 := by omega
  have hlow : n % 65536 % 256 = n % 256 := by omega
  rw [be16_eq, be16_eq n, hhigh, hlow]

theorem drop_eq_be32_iff {w : Word32} :
    body.drop i = be32 w ++ z ↔ i + 3 < body.length ∧ u32 body i = w ∧ body.drop (i + 4) = z := by
  have hw := w.isLt
  have hhigh := u16_lt body i
  have hlow := u16_lt body (i + 2)
  have hword : u32 body i = w ↔ u16 body i * 65536 + u16 body (i + 2) = w.toNat := by
    rw [u32, ← BitVec.toNat_inj, BitVec.toNat_ofNat, Nat.mod_eq_of_lt (by omega)]
  rw [be32, ← be16_mod w.toNat, List.append_assoc, drop_eq_be16_iff (by omega),
    drop_eq_be16_iff (Nat.mod_lt _ (by decide)), hword]
  constructor
  · rintro ⟨_, _, hlt, _, hz⟩
    exact ⟨hlt, by omega, hz⟩
  · rintro ⟨hlt, _, hz⟩
    exact ⟨by omega, by omega, hlt, by omega, hz⟩

/-- A layout is read field by field from the body's front, up to its end. -/
theorem eq_layout_iff : body = z ↔ body.drop 0 = z ++ [] := by rw [List.drop_zero, List.append_nil]

/-- A body of one two-byte field. -/
theorem eq_be16_iff (h : n < 65536) : body = be16 n ↔ body.length = 2 ∧ u16 body 0 = n := by
  rw [eq_layout_iff, drop_eq_be16_iff h, List.drop_eq_nil_iff]
  constructor
  · rintro ⟨_, hfield, _⟩
    exact ⟨by omega, hfield⟩
  · rintro ⟨_, hfield⟩
    exact ⟨by omega, hfield, by omega⟩

/-- A body of one one-byte field. -/
theorem eq_be8_iff (h : n < 256) : body = be8 n ↔ body.length = 1 ∧ u8 body 0 = n := by
  rw [eq_layout_iff, drop_eq_be8_iff h, List.drop_eq_nil_iff]
  constructor
  · rintro ⟨_, hfield, _⟩
    exact ⟨by omega, hfield⟩
  · rintro ⟨_, hfield⟩
    exact ⟨by omega, hfield, by omega⟩

end Fields

/-! Codes of named values -/

theorem kindCode_lt (k : Kind) : kindCode k < 256 := by cases k <;> decide

theorem kindOf_eq_some_iff {n : Nat} {k : Kind} : kindOf n = some k ↔ n = kindCode k := by
  constructor
  · intro h
    unfold kindOf at h
    split at h <;> cases h <;> rfl
  · rintro rfl
    cases k <;> rfl

theorem flagOf_eq_some_iff {n : Nat} {b : Bool} : flagOf n = some b ↔ n = if b then 1 else 0 := by
  constructor
  · intro h
    unfold flagOf at h
    split at h <;> cases h <;> rfl
  · rintro rfl
    cases b <;> rfl

theorem closeModeOf_eq_some_iff {n : Nat} {c : CloseMode} : closeModeOf n = some c ↔ n = closeModeCode c := by
  constructor
  · intro h
    unfold closeModeOf at h
    split at h <;> cases h <;> rfl
  · rintro rfl
    cases c <;> rfl

theorem closeModeCode_lt (c : CloseMode) : closeModeCode c < 256 := by cases c <;> decide

theorem flag_lt (b : Bool) : (if b then 1 else 0) < 256 := by cases b <;> decide

theorem setOf_eq_some_iff {n w : Nat} {s : BitVec w} : setOf w n = some s ↔ n = s.toNat := by
  unfold setOf
  constructor
  · intro h
    split_ifs at h with hn
    cases h
    exact (Nat.mod_eq_of_lt hn).symm
  · rintro rfl
    simp [s.isLt]

theorem stopNumberOf_eq_some_iff {n k : Nat} : stopNumberOf n = some k ↔ n ≤ 511 ∧ n = k := by
  unfold stopNumberOf
  rw [Option.ite_none_right_eq_some, Option.some_inj, Config.stopNumbers]
  exact and_congr_left' Nat.lt_succ_iff

theorem keyOf_eq_some_iff {body : List Byte} {i : Nat} {k : Key} :
    keyOf body i = some k ↔ u32 body i = k.number ∧ u8 body (i + 4) = kindCode k.kind := by
  rw [keyOf, Option.map_eq_some_iff]
  constructor
  · rintro ⟨kind, hkind, rfl⟩
    exact ⟨rfl, kindOf_eq_some_iff.mp hkind⟩
  · rintro ⟨hnumber, hkind⟩
    exact ⟨k.kind, kindOf_eq_some_iff.mpr hkind, by rw [hnumber]⟩

/-! The bodies -/

theorem readMemberOf_iff (body : List Byte) (k : Key) :
    readMemberOf body = some k ↔ body = be32 k.number ++ be8 (kindCode k.kind) := by
  rw [eq_layout_iff, List.append_assoc, drop_eq_be32_iff, drop_eq_be8_iff (kindCode_lt _), List.drop_eq_nil_iff,
    readMemberOf, Option.ite_none_right_eq_some, keyOf_eq_some_iff]
  constructor
  · rintro ⟨hlength, hnumber, hkind⟩
    exact ⟨by omega, hnumber, by omega, hkind, by omega⟩
  · rintro ⟨_, hnumber, _, hkind, _⟩
    exact ⟨by omega, hnumber, hkind⟩

theorem clearTamperOf_iff (body : List Byte) (k : Key) (classes : ClassSet) :
    clearTamperOf body = some (k, classes) ↔ body = be32 k.number ++ be8 (kindCode k.kind) ++ be8 classes.toNat := by
  have hclasses : classes.toNat < 256 := classes.isLt.trans (by decide)
  rw [eq_layout_iff]
  simp only [List.append_assoc, drop_eq_be32_iff, drop_eq_be8_iff (kindCode_lt _), drop_eq_be8_iff hclasses,
    List.drop_eq_nil_iff, clearTamperOf, Option.ite_none_right_eq_some, bind, Option.bind_eq_some_iff, keyOf_eq_some_iff,
    setOf_eq_some_iff, pure, Option.some_inj, Prod.mk.injEq]
  constructor
  · rintro ⟨hlength, _, ⟨hnumber, hkind⟩, _, hset, rfl, rfl⟩
    exact ⟨by omega, hnumber, by omega, hkind, by omega, hset, by omega⟩
  · rintro ⟨_, hnumber, _, hkind, _, hset, _⟩
    exact ⟨by omega, k, ⟨hnumber, hkind⟩, classes, hset, rfl, rfl⟩

theorem telegramBody_iff (body : List Byte) (t : Telegram) (flags : Byte) :
    body = be32 t.key.number ++ be8 (kindCode t.key.kind) ++ be32 t.counter ++ be32 t.time ++ [flags, t.signal] ↔
      body.length = 15 ∧ (u32 body 0 = t.key.number ∧ u8 body 4 = kindCode t.key.kind) ∧ u32 body 5 = t.counter ∧
        u32 body 9 = t.time ∧ byteAt body 13 = flags ∧ byteAt body 14 = t.signal := by
  rw [eq_layout_iff]
  simp only [List.append_assoc, List.cons_append, List.nil_append, drop_eq_be32_iff, drop_eq_be8_iff (kindCode_lt _),
    drop_eq_cons_iff, List.drop_eq_nil_iff]
  constructor
  · rintro ⟨_, hnumber, _, hkind, _, hcounter, _, htime, _, hflags, _, hsignal, _⟩
    exact ⟨by omega, ⟨hnumber, hkind⟩, hcounter, htime, hflags, hsignal⟩
  · rintro ⟨_, ⟨hnumber, hkind⟩, hcounter, htime, hflags, hsignal⟩
    exact ⟨by omega, hnumber, by omega, hkind, by omega, hcounter, by omega, htime, by omega, hflags, by omega, hsignal,
      by omega⟩

/-- Bits 4 to 7 of the flag byte are not read (R41). -/
theorem telegramOf_iff (body : List Byte) (t : Telegram) : telegramOf body = some t ↔
    ∃ flags : Byte, body = be32 t.key.number ++ be8 (kindCode t.key.kind) ++ be32 t.counter ++ be32 t.time ++
        [flags, t.signal] ∧
      flags.getLsbD 0 = t.magnet ∧ flags.getLsbD 1 = t.opened ∧ flags.getLsbD 2 = t.reverse ∧
      flags.getLsbD 3 = t.batteryLow := by
  simp only [telegramBody_iff, telegramOf, Option.ite_none_right_eq_some, Option.map_eq_some_iff, keyOf_eq_some_iff]
  constructor
  · rintro ⟨hlength, key, hkey, rfl⟩
    exact ⟨byteAt body 13, ⟨hlength, hkey, rfl, rfl, rfl, rfl⟩, rfl, rfl, rfl, rfl⟩
  · rintro ⟨_, ⟨hlength, hkey, hcounter, htime, rfl, hsignal⟩, hmagnet, hopened, hreverse, hbattery⟩
    refine ⟨hlength, t.key, hkey, ?_⟩
    simp only [hcounter, htime, hmagnet, hopened, hreverse, hbattery, hsignal]

theorem closeStopBody_iff (body : List Byte) {n flag : Nat} (hn : n ≤ 511) (hflag : flag < 256) (last : Byte) :
    body = be16 n ++ be8 flag ++ [last] ↔
      body.length = 4 ∧ u16 body 0 = n ∧ u8 body 2 = flag ∧ byteAt body 3 = last := by
  rw [eq_layout_iff]
  simp only [List.append_assoc, List.cons_append, List.nil_append, drop_eq_be16_iff (show n < 65536 by omega),
    drop_eq_be8_iff hflag, drop_eq_cons_iff, List.drop_eq_nil_iff]
  constructor
  · rintro ⟨_, hstop, _, hpresent, _, hlast, _⟩
    exact ⟨by omega, hstop, hpresent, hlast⟩
  · rintro ⟨_, hstop, hpresent, hlast⟩
    exact ⟨by omega, hstop, by omega, hpresent, by omega, hlast, by omega⟩

/-- The override mode is judged when its presence is 1, and not read when it is 0 (R113, R202). -/
theorem closeStopOf_iff (body : List Byte) (n : Nat) (o : Option CloseMode) : closeStopOf body = some (n, o) ↔
    n ≤ 511 ∧ match o with
      | none => ∃ ignored : Byte, body = be16 n ++ be8 0 ++ [ignored]
      | some mode => body = be16 n ++ be8 1 ++ be8 (closeModeCode mode) := by
  have hmode : ∀ mode, u8 body 3 = closeModeCode mode ↔ byteAt body 3 = BitVec.ofNat 8 (closeModeCode mode) :=
    fun mode => (byte_eq_ofNat_iff (closeModeCode_lt mode)).symm
  simp only [closeStopOf, Option.ite_none_right_eq_some, bind, Option.bind_eq_some_iff, stopNumberOf_eq_some_iff,
    flagOf_eq_some_iff, pure]
  constructor
  · rintro ⟨hlength, k, ⟨hk, hstop⟩, present, hpresent, hrest⟩
    cases present
    case false =>
      cases hrest
      exact ⟨by omega, byteAt body 3,
        (closeStopBody_iff body (by omega) (by decide) _).mpr ⟨hlength, hstop, hpresent, rfl⟩⟩
    case true =>
      obtain ⟨mode, hread, h⟩ := Option.bind_eq_some_iff.mp hrest
      cases h
      exact ⟨by omega, (closeStopBody_iff body (by omega) (by decide) _).mpr
        ⟨hlength, hstop, hpresent, (hmode mode).mp (closeModeOf_eq_some_iff.mp hread)⟩⟩
  · rintro ⟨hn, hbody⟩
    cases o
    case none =>
      obtain ⟨last, hbody⟩ := hbody
      obtain ⟨hlength, hstop, hpresent, _⟩ := (closeStopBody_iff body hn (by decide) last).mp hbody
      exact ⟨hlength, n, ⟨by omega, hstop⟩, false, hpresent, rfl⟩
    case some mode =>
      obtain ⟨hlength, hstop, hpresent, hlast⟩ := (closeStopBody_iff body hn (by decide) _).mp hbody
      refine ⟨hlength, n, ⟨by omega, hstop⟩, true, hpresent, ?_⟩
      exact Option.bind_eq_some_iff.mpr ⟨mode, closeModeOf_eq_some_iff.mpr ((hmode mode).mpr hlast), rfl⟩

theorem eventsOf_iff (p : HostPort) (body : List Byte) (e : EventSet) :
    eventsOf p body = some e ↔ body = be16 e.toNat ∧ e &&& ~~~ viewEvents p = 0 := by
  have he : e.toNat < 65536 := e.isLt.trans (by decide)
  rw [eq_layout_iff, drop_eq_be16_iff he, List.drop_eq_nil_iff]
  simp only [eventsOf, Option.ite_none_right_eq_some, bind, Option.bind_eq_some_iff, setOf_eq_some_iff, pure,
    Option.some_inj]
  constructor
  · rintro ⟨hlength, _, hset, hview, rfl⟩
    exact ⟨⟨by omega, hset, by omega⟩, hview⟩
  · rintro ⟨⟨_, hset, _⟩, hview⟩
    exact ⟨by omega, e, hset, hview, rfl⟩

theorem toNat_lt_byte {w : Nat} (s : BitVec w) (hw : w ≤ 8 := by decide) : s.toNat < 256 :=
  s.isLt.trans_le (Nat.pow_le_pow_right (by decide) hw)

theorem queryBody_iff (body : List Byte) (q : Selection) {start : Nat} (hstart : start ≤ 8191) (x y : Byte) :
    body = be8 q.readStates.toNat ++ be8 q.tamperStates.toNat ++ be8 q.kinds.toNat ++ be8 q.histories.toNat ++
        be8 (if q.stop.isSome then 1 else 0) ++ [x, y] ++ be16 start ↔
      body.length = 9 ∧ (u8 body 0 = q.readStates.toNat ∧ u8 body 1 = q.tamperStates.toNat ∧
        u8 body 2 = q.kinds.toNat ∧ u8 body 3 = q.histories.toNat) ∧
        u8 body 4 = (if q.stop.isSome then 1 else 0) ∧ byteAt body 5 = x ∧ byteAt body 6 = y ∧ u16 body 7 = start := by
  rw [eq_layout_iff]
  simp only [List.append_assoc, List.cons_append, List.nil_append, drop_eq_be16_iff (show start < 65536 by omega),
    drop_eq_be8_iff (toNat_lt_byte q.readStates), drop_eq_be8_iff (toNat_lt_byte q.tamperStates),
    drop_eq_be8_iff (toNat_lt_byte q.kinds), drop_eq_be8_iff (toNat_lt_byte q.histories),
    drop_eq_be8_iff (flag_lt q.stop.isSome), drop_eq_cons_iff, List.drop_eq_nil_iff]
  constructor
  · rintro ⟨_, hread, _, htamper, _, hkinds, _, hhistories, _, hone, _, hx, _, hy, _, hcursor, _⟩
    exact ⟨by omega, ⟨hread, htamper, hkinds, hhistories⟩, hone, hx, hy, hcursor⟩
  · rintro ⟨_, ⟨hread, htamper, hkinds, hhistories⟩, hone, hx, hy, hcursor⟩
    exact ⟨by omega, hread, by omega, htamper, by omega, hkinds, by omega, hhistories, by omega, hone, by omega, hx,
      by omega, hy, by omega, hcursor, by omega⟩

/-- The stop number is judged when one is selected, and not read for ALL (R145, R146). -/
theorem queryOf_iff (body : List Byte) (q : Selection) (start : Nat) : queryOf body = some (q, start) ↔
    start ≤ 8191 ∧ ∃ x y : Byte,
      body = be8 q.readStates.toNat ++ be8 q.tamperStates.toNat ++ be8 q.kinds.toNat ++ be8 q.histories.toNat ++
        be8 (if q.stop.isSome then 1 else 0) ++ [x, y] ++ be16 start ∧
      ∀ n, q.stop = some n → n ≤ 511 ∧ [x, y] = be16 n := by
  have hstop : ∀ n, n ≤ 511 → ([byteAt body 5, byteAt body 6] = be16 n ↔ u16 body 5 = n) := fun n hn =>
    (eq_be16_iff (by omega)).trans (and_iff_right rfl)
  obtain ⟨readStates, tamperStates, kinds, histories, stop⟩ := q
  simp only [queryOf, Option.ite_none_right_eq_some, bind, Option.bind_eq_some_iff, setOf_eq_some_iff, flagOf_eq_some_iff,
    pure, Config.directoryPlaces]
  constructor
  · rintro ⟨⟨hlength, hstart⟩, _, hread, _, htamper, _, hkinds, _, hhistories, one, hone, hrest⟩
    cases one
    case false =>
      cases hrest
      exact ⟨by omega, byteAt body 5, byteAt body 6, (queryBody_iff body ⟨_, _, _, _, none⟩ (by omega) _ _).mpr
        ⟨hlength, ⟨hread, htamper, hkinds, hhistories⟩, hone, rfl, rfl, rfl⟩, nofun⟩
    case true =>
      obtain ⟨n, hn, h⟩ := Option.bind_eq_some_iff.mp hrest
      obtain ⟨hrange, hfield⟩ := stopNumberOf_eq_some_iff.mp hn
      cases h
      refine ⟨by omega, byteAt body 5, byteAt body 6, (queryBody_iff body ⟨_, _, _, _, some n⟩ (by omega) _ _).mpr
        ⟨hlength, ⟨hread, htamper, hkinds, hhistories⟩, hone, rfl, rfl, rfl⟩, fun k hk => ?_⟩
      cases hk
      exact ⟨by omega, (hstop n (by omega)).mpr hfield⟩
  · rintro ⟨hstart, x, y, hbody, hselected⟩
    obtain ⟨hlength, ⟨hread, htamper, hkinds, hhistories⟩, hone, rfl, rfl, rfl⟩ :=
      (queryBody_iff body ⟨readStates, tamperStates, kinds, histories, stop⟩ hstart x y).mp hbody
    refine ⟨⟨hlength, by omega⟩, readStates, hread, tamperStates, htamper, kinds, hkinds, histories, hhistories,
      stop.isSome, hone, ?_⟩
    cases stop
    case none => rfl
    case some n =>
      obtain ⟨hn, hfield⟩ := hselected n rfl
      have hnumber := (hstop n hn).mp hfield
      exact Option.bind_eq_some_iff.mpr ⟨n, stopNumberOf_eq_some_iff.mpr ⟨by omega, hnumber⟩, rfl⟩

theorem stopOf_iff (body : List Byte) (n : Nat) : stopOf body = some n ↔ n ≤ 511 ∧ body = be16 n := by
  rw [stopOf, Option.ite_none_right_eq_some, stopNumberOf_eq_some_iff]
  constructor
  · rintro ⟨hlength, hn, hfield⟩
    exact ⟨by omega, (eq_be16_iff (by omega)).mpr ⟨hlength, hfield⟩⟩
  · rintro ⟨hn, hbody⟩
    obtain ⟨hlength, hfield⟩ := (eq_be16_iff (by omega)).mp hbody
    exact ⟨hlength, by omega, hfield⟩

theorem batchNumberOf_iff (body : List Byte) (n : Nat) :
    batchNumberOf body = some n ↔ 1 ≤ n ∧ n ≤ 65535 ∧ body = be16 n := by
  have hfield := u16_lt body 0
  rw [batchNumberOf, Option.ite_none_right_eq_some, Option.some_inj]
  constructor
  · rintro ⟨⟨hlength, hzero⟩, hn⟩
    exact ⟨by omega, by omega, (eq_be16_iff (by omega)).mpr ⟨hlength, hn⟩⟩
  · rintro ⟨_, _, hbody⟩
    obtain ⟨hlength, hn⟩ := (eq_be16_iff (by omega)).mp hbody
    exact ⟨⟨hlength, by omega⟩, hn⟩

theorem startPlaceOf_iff (body : List Byte) (n : Nat) : startPlaceOf body = some n ↔ n ≤ 31 ∧ body = be8 n := by
  rw [startPlaceOf, Option.ite_none_right_eq_some, Option.some_inj, Config.alertPlaces]
  constructor
  · rintro ⟨⟨hlength, _⟩, hn⟩
    exact ⟨by omega, (eq_be8_iff (by omega)).mpr ⟨hlength, hn⟩⟩
  · rintro ⟨_, hbody⟩
    obtain ⟨hlength, hn⟩ := (eq_be8_iff (by omega)).mp hbody
    exact ⟨⟨hlength, by omega⟩, hn⟩

theorem startPositionOf_iff (body : List Byte) (n : Nat) : startPositionOf body = some n ↔ n ≤ 255 ∧ body = be16 n := by
  rw [startPositionOf, Option.ite_none_right_eq_some, Option.some_inj, Config.strangerPlaces]
  constructor
  · rintro ⟨⟨hlength, _⟩, hn⟩
    exact ⟨by omega, (eq_be16_iff (by omega)).mpr ⟨hlength, hn⟩⟩
  · rintro ⟨_, hbody⟩
    obtain ⟨hlength, hn⟩ := (eq_be16_iff (by omega)).mp hbody
    exact ⟨⟨hlength, by omega⟩, hn⟩

/-- A body of one flag, of CLEAR ROUTE and of SET PASS alike. -/
theorem flagBody_iff (body : List Byte) (on : Bool) :
    (if body.length = 1 then flagOf (u8 body 0) else none) = some on ↔ body = be8 (if on then 1 else 0) := by
  rw [Option.ite_none_right_eq_some, flagOf_eq_some_iff, eq_be8_iff (flag_lt on)]

/-- Settles O36, one lemma for each kind of body. -/
theorem otherBodyLayouts : Obligations.OtherBodyLayouts :=
  ⟨telegramOf_iff, clearTamperOf_iff, closeStopOf_iff, readMemberOf_iff, queryOf_iff, eventsOf_iff,
    fun body n => ⟨stopOf_iff body n, batchNumberOf_iff body n, startPlaceOf_iff body n, startPositionOf_iff body n⟩,
    fun body on => ⟨flagBody_iff body on, flagBody_iff body on⟩⟩

end Sys2Proof.Machine
end

section
/-! SUPPORT. The consumption evaluator (4.3, 4.4): what each stage can answer, and the indicators that these answers let stand
together. -/

namespace Sys2Proof.Machine

/-! Sets of indicators -/

theorem meets_or (a b i : IndicatorSet) : meets (a ||| b) i = (meets a i || meets b i) := by
  have hzero : (a ||| b) &&& i = 0 ↔ a &&& i = 0 ∧ b &&& i = 0 := by
    rw [BitVec.and_or_distrib_right]
    exact BitVec.or_eq_zero_iff
  rw [Bool.eq_iff_iff]
  simp only [meets, bne_iff_ne, Bool.or_eq_true, ne_eq, hzero]
  exact not_and_or

/-- The meter flags stand at their own three bits (R76). -/
theorem meets_meterFlags {i : IndicatorSet} (h : i &&& 0x700 = 0) (t : Telegram) : meets (meterFlags t) i = false := by
  have hflags : ∀ magnet opened reverse : Bool, (raiseIf magnet indMagnet ||| raiseIf opened indOpened |||
      raiseIf reverse indReverse) &&& 0x700 = raiseIf magnet indMagnet ||| raiseIf opened indOpened |||
      raiseIf reverse indReverse := by decide
  rw [meets, meterFlags, ← hflags, BitVec.and_assoc, BitVec.and_comm 0x700, h]
  exact bne_eq_false_iff_eq.mpr BitVec.and_zero

/-! Stage 2 -/

/-- No earlier meter time, no CLOCK; CLOCK comes with an elapsed time of 0 (R70). -/
theorem elapsed_cases (t t0 : Word32) :
    (elapsed t t0).2 = 0 ∨ (elapsed t t0).1 = 0 ∧ (elapsed t t0).2 = indClock := by
  unfold elapsed
  split_ifs
  · exact .inl rfl
  · exact .inl rfl
  · exact .inr ⟨rfl, rfl⟩

/-- While time elapsed there is no CLOCK (R70). -/
theorem elapsed_clock_of_ne_zero {t t0 : Word32} (h : (elapsed t t0).1 ≠ 0) : (elapsed t t0).2 = 0 :=
  (elapsed_cases t t0).resolve_right fun hclock => h hclock.1

/-! Stage 3 -/

theorem modulus_eq (w : Width) : modulus w = if w = .half then 2 ^ 16 else 2 ^ 32 := by cases w <;> rfl

theorem zoneAt_eq (w : Width) (p : Profile) :
    zoneAt w p = if w = .half then min p.zone.toNat 32768 else p.zone.toNat := by cases w <;> rfl

theorem rollsOver_iff (w : Width) (p : Profile) (c c0 : Nat) :
    rollsOver w p c c0 = true ↔ modulus w - zoneAt w p ≤ c0 ∧ c < zoneAt w p := by
  simp [rollsOver]

/-- The four answers of stage 3 (R71, R72). -/
theorem delta_cases (w : Width) (p : Profile) (c c0 : Nat) :
    (c0 ≤ c ∧ delta w p c c0 = (c - c0, 0)) ∨
    (c < c0 ∧ delta w p c c0 = (c + modulus w - c0, indWrap)) ∨
    delta w p c c0 = (0, 0) ∨
    delta w p c c0 = (0, indBackstep) := by
  unfold delta
  split_ifs with hge hroll hjitter
  · exact .inl ⟨hge, rfl⟩
  · exact .inr (.inl ⟨by omega, rfl⟩)
  · exact .inr (.inr (.inl rfl))
  · exact .inr (.inr (.inr rfl))

theorem delta_indicators (w : Width) (p : Profile) (c c0 : Nat) :
    (delta w p c c0).2 = 0 ∨ (delta w p c c0).2 = indWrap ∨ (delta w p c c0).2 = indBackstep := by
  obtain ⟨_, h⟩ | ⟨_, h⟩ | h | h := delta_cases w p c c0 <;> simp [h]

/-- Stage 3 raises one indicator at most: that it raises BACKSTEP is that it raises nothing else. -/
theorem not_meets_delta_backstep (w : Width) (p : Profile) (c c0 : Nat) :
    (!meets (delta w p c c0).2 indBackstep) = decide ((delta w p c c0).2 ≠ indBackstep) := by
  obtain h | h | h := delta_indicators w p c c0 <;> rw [h] <;> decide

/-- A delta fits its counter's width. -/
theorem delta_le {w : Width} (p : Profile) {c c0 : Nat} (hc : c < modulus w) :
    (delta w p c c0).1 ≤ modulus w - 1 := by
  obtain ⟨_, h⟩ | ⟨_, h⟩ | h | h := delta_cases w p c c0 <;> rw [h] <;> dsimp only <;> omega

/-- A rollover counts at least the step over the top of the range. -/
theorem delta_pos_of_wrap {w : Width} {p : Profile} {c c0 : Nat} (hc0 : c0 < modulus w)
    (hwrap : (delta w p c c0).2 = indWrap) : 1 ≤ (delta w p c c0).1 := by
  have hzero : (0 : IndicatorSet) ≠ indWrap := by decide
  obtain ⟨_, h⟩ | ⟨_, h⟩ | h | h := delta_cases w p c c0 <;> rw [h] at hwrap ⊢
  · exact absurd hwrap hzero
  · dsimp only
    omega
  · exact absurd hwrap hzero
  · exact absurd hwrap (by decide)

/-- Settles O26: each stage's cases as they stand, with the width's modulus and wrap zone written out. -/
theorem elapsedTimeAndDelta : Obligations.ElapsedTimeAndDelta := by
  refine ⟨fun t t0 => ?_, fun w p c c0 => ?_, fun w p c c0 hc hc0 => ⟨delta_le p hc, delta_pos_of_wrap hc0⟩⟩
  · simp only [elapsed, BitVec.lt_def, gt_iff_lt]
  · simp only [delta, rollsOver_iff, modulus_eq, zoneAt_eq, ge_iff_le]

/-! Stages 4 and 5 -/

/-- The rate is held at its limit, and OVERRANGE says so (R73). -/
theorem rate_eq (d e : Nat) :
    rate d e = (min (d * 3600 / e) rateLimit, raiseIf (decide (rateLimit < d * 3600 / e)) indOverrange) := by
  unfold rate
  split_ifs with h
  · rw [min_eq_right h.le, decide_eq_true h]
    rfl
  · rw [min_eq_left (not_lt.mp h), decide_eq_false h]
    rfl

/-- A part `x / b` of a difference `a`, truncated toward zero, lies between 0 and `a`. -/
theorem tdiv_between {a x b : Int} (hx : 0 ≤ x) (hxb : x ≤ b) (hb : 0 < b) :
    min 0 a ≤ Int.tdiv (a * x) b ∧ Int.tdiv (a * x) b ≤ max 0 a := by
  have hends : min 0 a * b ≤ a * x ∧ a * x ≤ max 0 a * b := by
    obtain ha | ha := le_total 0 a
    · rw [min_eq_left ha, max_eq_right ha, zero_mul]
      exact ⟨mul_nonneg ha hx, mul_le_mul_of_nonneg_left hxb ha⟩
    · rw [min_eq_right ha, max_eq_left ha, zero_mul]
      exact ⟨mul_le_mul_of_nonpos_left hxb ha, mul_nonpos_of_nonpos_of_nonneg ha hx⟩
  have hlow := Int.tdiv_le_tdiv hb hends.1
  have hhigh := Int.tdiv_le_tdiv hb hends.2
  rw [Int.mul_tdiv_cancel _ hb.ne'] at hlow hhigh
  exact ⟨hlow, hhigh⟩

/-- Between the ends of the profile's times, the slope's quotient lies between 0 and CeilLong - CeilShort (R74). -/
theorem slope_between {p : Profile} {e : Nat} (hshort : p.eshort.toNat < e) (hlong : e < p.elong.toNat) :
    min 0 ((p.ceilLong.toNat : Int) - p.ceilShort.toNat) ≤ slope p e ∧
      slope p e ≤ max 0 ((p.ceilLong.toNat : Int) - p.ceilShort.toNat) :=
  tdiv_between (by omega) (by omega) (by omega)

theorem ceiling_of_le_eshort {p : Profile} {e : Nat} (h : e ≤ p.eshort.toNat) : ceiling p e = p.ceilShort.toNat :=
  if_pos h

theorem ceiling_of_elong_le {p : Profile} {e : Nat} (hp : p.eshort.toNat < p.elong.toNat) (h : p.elong.toNat ≤ e) :
    ceiling p e = p.ceilLong.toNat := by
  rw [ceiling, if_neg (by omega), if_pos h]

/-- The middle case's sum is no negative number, so that nothing is lost as it is read as a figure. -/
theorem ceiling_between {p : Profile} {e : Nat} (hshort : p.eshort.toNat < e) (hlong : e < p.elong.toNat) :
    (ceiling p e : Int) = p.ceilShort.toNat + slope p e := by
  obtain ⟨hlow, _⟩ := slope_between hshort hlong
  rw [ceiling, if_neg (by omega), if_neg (by omega)]
  exact Int.toNat_of_nonneg (by omega)

theorem ceiling_bounds {p : Profile} (hp : p.eshort.toNat < p.elong.toNat) (e : Nat) :
    min p.ceilShort.toNat p.ceilLong.toNat ≤ ceiling p e ∧ ceiling p e ≤ max p.ceilShort.toNat p.ceilLong.toNat := by
  by_cases hshort : e ≤ p.eshort.toNat
  · rw [ceiling_of_le_eshort hshort]
    exact ⟨min_le_left _ _, le_max_left _ _⟩
  by_cases hlong : p.elong.toNat ≤ e
  · rw [ceiling_of_elong_le hp hlong]
    exact ⟨min_le_right _ _, le_max_right _ _⟩
  have hsum := ceiling_between (not_le.mp hshort) (not_le.mp hlong)
  obtain ⟨hlow, hhigh⟩ := slope_between (not_le.mp hshort) (not_le.mp hlong)
  omega

/-- Settles O27, case by case; the bounds rest on a truncated part of a difference lying between 0 and the difference. -/
theorem ceilingLiesBetweenItsEnds : Obligations.CeilingLiesBetweenItsEnds := fun _ e _ hp =>
  ⟨ceiling_of_le_eshort, ceiling_of_elong_le hp, ceiling_between, (ceiling_bounds hp e).1, (ceiling_bounds hp e).2⟩

/-! Stage 6, and a first hearing as a whole -/

/-- STILL (R75), at stage 3's own answer. -/
theorem still_delta (w : Width) (p : Profile) (c c0 d e : Nat) :
    still p d e (delta w p c c0).2 = raiseIf (decide (p.idleSpan ≠ 0 ∧ d = 0 ∧ p.idleSpan.toNat ≤ e ∧
      (delta w p c c0).2 ≠ indBackstep)) indStill := by
  rw [still, not_meets_delta_backstep]
  congr 1
  rw [Bool.eq_iff_iff]
  simp [and_assoc]

section FirstHearing

variable (w : Width) (p : Profile) (c : Word32) (t : Telegram)

/-- Without a prior reading (R69). -/
theorem judgeFirst_none : judgeFirst w p none c t = ⟨indNoHistory ||| meterFlags t, none, none⟩ := rfl

/-- With a prior reading and no time elapsed (R70). -/
theorem judgeFirst_of_elapsed_zero {r : Reading} (h : (elapsed t.time r.time).1 = 0) :
    judgeFirst w p (some r) c t =
      ⟨(elapsed t.time r.time).2 ||| (delta w p c.toNat r.counter.toNat).2 ||| indNoTime ||| meterFlags t, none, none⟩ := by
  simp only [judgeFirst, judgeHistory, if_pos h]

/-- With a prior reading and time elapsed (R73 to R77). -/
theorem judgeFirst_of_elapsed {r : Reading} (h : (elapsed t.time r.time).1 ≠ 0) :
    let e := (elapsed t.time r.time).1
    let d := (delta w p c.toNat r.counter.toNat).1
    let step := (delta w p c.toNat r.counter.toNat).2
    judgeFirst w p (some r) c t =
      ⟨(elapsed t.time r.time).2 ||| step ||| raiseIf (decide (rateLimit < d * 3600 / e)) indOverrange |||
          raiseIf (decide (ceiling p e < min (d * 3600 / e) rateLimit)) indHighRate |||
          raiseIf (decide (p.idleSpan ≠ 0 ∧ d = 0 ∧ p.idleSpan.toNat ≤ e ∧ step ≠ indBackstep)) indStill |||
          meterFlags t,
        some (BitVec.ofNat 32 (min (d * 3600 / e) rateLimit)), some (BitVec.ofNat 32 (ceiling p e))⟩ := by
  simp only [judgeFirst, judgeHistory, if_neg h, rate_eq, still_delta]

end FirstHearing

/-- Settles O28, one equation for each way a first hearing goes. -/
theorem firstHearingJudgement : Obligations.FirstHearingJudgement := by
  intro w p prior c t
  refine ⟨?_, ?_⟩
  · rintro rfl
    exact judgeFirst_none w p c t
  · rintro r rfl
    refine ⟨judgeFirst_of_elapsed_zero w p c t, fun he => ⟨_, rfl, ?_⟩⟩
    rw [judgeFirst_of_elapsed w p c t he]
    exact ⟨rfl, rfl, rfl⟩

/-! Indicators that come together or never do (R67) -/

/-- What R67 says of a first hearing's indicators. -/
def FirstExclusions (i : IndicatorSet) : Prop :=
  (meets i indClock = true → meets i indNoTime = true) ∧
  (meets i indWrap && meets i indBackstep) = false ∧
  (meets i indHighRate && meets i indNoTime) = false ∧
  meets i indClone = false ∧
  (meets i indNoHistory = true → meets i 0x0FE = false)

/-- What R67 says of a later hearing's indicators. -/
def LaterExclusions (i : IndicatorSet) : Prop :=
  meets i (indNoHistory ||| indNoTime ||| indOverrange ||| indHighRate ||| indStill) = false ∧
  (meets i indWrap && meets i indBackstep) = false ∧
  (meets i (indClock ||| indClone) = true → meets i (indWrap ||| indBackstep) = false)

/-- The meter flags take no part in the exclusions. -/
theorem firstExclusions_or_meterFlags {i : IndicatorSet} (h : FirstExclusions i) (t : Telegram) :
    FirstExclusions (i ||| meterFlags t) := by
  have hsame : ∀ j : IndicatorSet, j &&& 0x700 = 0 → meets (i ||| meterFlags t) j = meets i j := fun j hj => by
    rw [meets_or, meets_meterFlags hj, Bool.or_false]
  unfold FirstExclusions
  rw [hsame indClock rfl, hsame indNoTime rfl, hsame indWrap rfl, hsame indBackstep rfl, hsame indHighRate rfl,
    hsame indClone rfl, hsame indNoHistory rfl, hsame 0x0FE rfl]
  exact h

theorem firstExclusions_noHistory : FirstExclusions indNoHistory := by
  unfold FirstExclusions
  decide

theorem firstExclusions_noTime {clock step : IndicatorSet} (hclock : clock = 0 ∨ clock = indClock)
    (hstep : step = 0 ∨ step = indWrap ∨ step = indBackstep) : FirstExclusions (clock ||| step ||| indNoTime) := by
  unfold FirstExclusions
  obtain rfl | rfl := hclock <;> obtain rfl | rfl | rfl := hstep <;> decide

theorem firstExclusions_rate {step : IndicatorSet} (hstep : step = 0 ∨ step = indWrap ∨ step = indBackstep)
    (overrange high idle : Bool) :
    FirstExclusions (0 ||| step ||| raiseIf overrange indOverrange ||| raiseIf high indHighRate ||| raiseIf idle indStill) := by
  unfold FirstExclusions
  obtain rfl | rfl | rfl := hstep <;> revert overrange high idle <;> decide

theorem judgeFirst_exclusions (w : Width) (p : Profile) (prior : Option Reading) (c : Word32) (t : Telegram) :
    FirstExclusions (judgeFirst w p prior c t).indicators := by
  cases prior with
  | none => exact firstExclusions_or_meterFlags firstExclusions_noHistory t
  | some r =>
    have hstep := delta_indicators w p c.toNat r.counter.toNat
    by_cases he : (elapsed t.time r.time).1 = 0
    · have hclock := (elapsed_cases t.time r.time).imp_right And.right
      rw [judgeFirst_of_elapsed_zero w p c t he]
      exact firstExclusions_or_meterFlags (firstExclusions_noTime hclock hstep) t
    · rw [judgeFirst_of_elapsed w p c t he, elapsed_clock_of_ne_zero he]
      exact firstExclusions_or_meterFlags (firstExclusions_rate hstep _ _ _) t

/-! A later hearing -/

section LaterHearing

variable (w : Width) (p : Profile) {c t : Word32} {held : Reading}

/-- An earlier meter time (R78). -/
theorem judgeLater_of_earlier (h : t < held.time) : judgeLater w p c t held = (indClock, false) := if_pos h

/-- An equal meter time: CLONE tells another counter (R78). -/
theorem judgeLater_of_equal (h : t = held.time) :
    judgeLater w p c t held = (raiseIf (c != held.counter) indClone, false) := by
  subst h
  rw [judgeLater, if_neg (BitVec.lt_irrefl _), if_pos rfl]

/-- A later meter time: stage 3 against the record's counter, whose BACKSTEP keeps the record's reading (R78, R79). -/
theorem judgeLater_of_later (h : held.time < t) :
    judgeLater w p c t held = ((delta w p c.toNat held.counter.toNat).2,
      decide ((delta w p c.toNat held.counter.toNat).2 ≠ indBackstep)) := by
  rw [judgeLater, if_neg (BitVec.lt_asymm h), if_neg (BitVec.ne_of_lt h).symm, ← not_meets_delta_backstep]

end LaterHearing

theorem laterExclusions_clock : LaterExclusions indClock := by
  unfold LaterExclusions
  decide

theorem laterExclusions_clone : ∀ other : Bool, LaterExclusions (raiseIf other indClone) := by
  unfold LaterExclusions
  decide

theorem laterExclusions_step {step : IndicatorSet} (hstep : step = 0 ∨ step = indWrap ∨ step = indBackstep) :
    LaterExclusions step := by
  unfold LaterExclusions
  obtain rfl | rfl | rfl := hstep <;> decide

theorem judgeLater_exclusions (w : Width) (p : Profile) (c t : Word32) (held : Reading) :
    LaterExclusions (judgeLater w p c t held).1 := by
  obtain h | h | h := lt_trichotomy t.toNat held.time.toNat
  · rw [judgeLater_of_earlier w p h]
    exact laterExclusions_clock
  · rw [judgeLater_of_equal w p (BitVec.eq_of_toNat_eq h)]
    exact laterExclusions_clone _
  · rw [judgeLater_of_later w p h]
    exact laterExclusions_step (delta_indicators w p c.toNat held.counter.toNat)

/-- Settles O29: the tests by the order of the two meter times, the exclusions by what each stage can raise. -/
theorem laterHearingTestsAndExclusions : Obligations.LaterHearingTestsAndExclusions := by
  refine ⟨fun w p c t held => ⟨judgeLater_of_earlier w p, fun ht hc => ?_, fun ht hc => ?_, judgeLater_of_later w p⟩,
    judgeFirst_exclusions, judgeLater_exclusions⟩
  · rw [judgeLater_of_equal w p ht, bne_iff_ne.mpr hc]
    rfl
  · rw [judgeLater_of_equal w p ht, hc, bne_self_eq_false]
    rfl

end Sys2Proof.Machine
end

section
/-! SUPPORT. Tamper states (R89, R102): whatever changes a member either leaves its latched set, its watch map and its tamper
state, or recomputes the state from the other two. -/

namespace Sys2Proof.Machine

/-- The member's tamper state is the one its latched set and watch map give (R89). -/
def Member.TamperTrue (r : Member) : Prop := r.tamper = tamperStateOf r.latched r.watch

theorem Part.tamperStatesTrue_iff {m : Part} : m.TamperStatesTrue ↔ ∀ e ∈ m.dir.ways, e.2.TamperTrue := .rfl

/-- A change of a member after which its tamper state is still the one R89 gives. -/
def Member.KeepsTamperTrue (f : Member → Member) : Prop := ∀ r : Member, r.TamperTrue → (f r).TamperTrue

/-- A hearing recomputes the state from what it leaves (R89). -/
theorem Member.heard_keepsTamperTrue (u : Tamper) (fired : ClassSet) (stopClosed : Bool) :
    Member.KeepsTamperTrue (Member.heard u fired stopClosed) := fun _ _ => rfl

/-- CLEAR TAMPER recomputes the state from what it leaves (R102). -/
theorem Member.cleared_keepsTamperTrue (classes : ClassSet) : Member.KeepsTamperTrue (Member.cleared classes) :=
  fun _ _ => rfl

theorem Member.reported_keepsTamperTrue : Member.KeepsTamperTrue Member.reported := fun _ h => h

theorem Member.givenUp_keepsTamperTrue : Member.KeepsTamperTrue Member.givenUp := fun r h => by
  rw [Member.givenUp_eq]
  exact h

namespace Part.TamperStatesTrue

/-! Changes of one block -/

theorem of_dir {m n : Part} (hm : m.TamperStatesTrue) (h : n.dir = m.dir) : n.TamperStatesTrue := by
  rw [Part.TamperStatesTrue, h]
  exact hm

theorem of_empty {n : Part} (h : n.dir.ways = []) : n.TamperStatesTrue := by
  simp [Part.TamperStatesTrue, h]

variable {m : Part} (hm : m.TamperStatesTrue)

include hm

/-- A part whose members are those of `m`, one of them changed. -/
theorem of_modify {n : Part} {p : Nat} {f : Member → Member} (hf : Member.KeepsTamperTrue f)
    (h : n.dir.ways = Table.modify p f m.dir.ways) : n.TamperStatesTrue := by
  rw [tamperStatesTrue_iff, h]
  intro e he
  obtain ⟨x, hx, rfl⟩ := List.mem_map.mp he
  split_ifs
  · exact hf x.2 (hm x hx)
  · exact hm x hx

theorem onMember (p : Nat) {f : Member → Member} (hf : Member.KeepsTamperTrue f) : (m.onMember p f).TamperStatesTrue :=
  hm.of_modify hf rfl

theorem setReadState (p : Nat) (r : ReadState) : (m.setReadState p r).TamperStatesTrue := by
  unfold Part.setReadState
  split
  · exact hm
  · exact hm.of_modify (p := p) (f := fun e => { e with readState := r }) (fun _ h => h) rfl

theorem giveUp : Part.TamperStatesTrue { m with dir := m.dir.giveUp } := by
  intro e he
  rw [Directory.giveUp_ways] at he
  obtain ⟨x, hx, rfl⟩ := List.mem_map.mp he
  exact Member.givenUp_keepsTamperTrue x.2 (hm x hx)

/-- A member placed in a way comes with the state its own fields give (R9). -/
theorem fill (p : Nat) {r : Member} (hr : r.TamperTrue) : Part.TamperStatesTrue { m with dir := m.dir.fill p r } := by
  intro e he
  obtain rfl | he := Table.mem_put he
  · exact hr
  · exact hm e he

/-! The tamper unit -/

theorem tamperOutcome (p : Nat) (r : Member) (inds : IndicatorSet) : (m.tamperOutcome p r inds).part.TamperStatesTrue :=
  hm.of_modify (Member.heard_keepsTamperTrue _ _ _) (congrArg (·.part.dir.ways) (tamperOutcome_eq p r inds m m.intake))

theorem reportDeferred (e : Nat × Member) : (m.reportDeferred e).TamperStatesTrue :=
  (hm.onMember e.1 Member.reported_keepsTamperTrue).of_dir (Part.offerAlert_dir ..)

theorem reportEach (l : List (Nat × Member)) : (l.foldl Part.reportDeferred m).TamperStatesTrue :=
  List.foldlRecOn l _ hm fun _ h e _ => h.reportDeferred e

/-! The stop unit -/

theorem disposeMembers (stop : Nat) (drop : Bool) : (m.disposeMembers stop drop).part.TamperStatesTrue := by
  have hdrop : ((m.unreadOf stop).foldl dropMember ⟨m, 0, 0⟩).part.TamperStatesTrue :=
    List.foldlRecOn (motive := fun c : Closing => c.part.TamperStatesTrue) _ _ hm fun _ h e _ => h.setReadState e.1 .missed
  have hcarry : ((m.unreadOf stop).foldl carryMember ⟨m, 0, 0⟩).part.TamperStatesTrue := by
    refine List.foldlRecOn (motive := fun c : Closing => c.part.TamperStatesTrue) _ _ hm fun c h e _ => ?_
    unfold carryMember
    split_ifs
    · exact (h.setReadState e.1 .carried).of_dir rfl
    · exact h.setReadState e.1 .missed
  unfold Part.disposeMembers
  dsimp only
  split_ifs
  · exact hdrop
  · exact hcarry
  · exact hcarry.of_dir rfl

theorem closeStop (r : Stop) (drop : Bool) : (m.closeStop r drop).part.TamperStatesTrue :=
  ((hm.disposeMembers r.number drop).of_dir (n := Part.onStops _ _) rfl).reportEach _

theorem closeLingering : m.closeLingering.TamperStatesTrue :=
  List.foldlRecOn _ _ hm fun _ h r _ => h.closeStop r false

theorem endRoute : m.endRoute.TamperStatesTrue :=
  (hm.giveUp.of_dir (n := { m with intake := m.intake.void, stops := m.stops.endRoute, dir := m.dir.giveUp })
    rfl).reportEach _

theorem skipHead (e : SweepEntry) (rest : List SweepEntry) : (m.skipHead e rest).TamperStatesTrue := by
  have hstops : (m.onStops (fun u => { u with sweep := rest })).TamperStatesTrue := hm
  obtain ⟨_, h⟩ | ⟨p, r, _, h⟩ := skipHead_cases e rest m <;> rw [h]
  · exact hstops
  · exact hstops.setReadState p .missed

/-! The upload engine -/

theorem of_items {n : Part} (h : ItemsTouched m n) : n.TamperStatesTrue := by
  obtain ⟨_, _, _, rfl, _⟩ := h
  exact hm

theorem finishUpload : m.finishUpload.TamperStatesTrue := by
  obtain h | h := finishUpload_cases m <;> rw [h] <;> exact hm

/-! Hearings -/

theorem firstHearing (p : Nat) (r : Member) (q : Queued) : (m.firstHearing p r q).TamperStatesTrue := by
  unfold Part.firstHearing
  dsimp only
  refine (onMember (f := fun e => { e with record := some m.store.length }) (setReadState ?_ p .read) p
    fun _ h => h).of_dir rfl
  exact (hm.tamperOutcome p r _).of_dir rfl

/-- A later hearing writes its record, and otherwise the tamper outcome alone (R55 to R58). -/
theorem laterHearing (p : Nat) (r : Member) (index : Nat) (e : Record) (q : Queued) :
    (m.laterHearing p r index e q).TamperStatesTrue := (hm.tamperOutcome p r _).of_dir rfl

theorem hear (q : Queued) : (m.hear q).TamperStatesTrue := by
  unfold Part.hear
  split
  · exact hm.of_dir (hearStranger_dir ..)
  · split_ifs
    · split
      · exact hm
      · split
        · exact hm
        · exact hm.laterHearing _ _ _ _ q
    · exact hm.firstHearing _ _ q

theorem completeTelegram (e : Evaluation) : (m.completeTelegram e).TamperStatesTrue := by
  have hfree : Part.TamperStatesTrue { m with intake := { m.intake with eval := none } } := hm
  unfold Part.completeTelegram
  dsimp only
  split_ifs
  · exact hfree
  · exact hfree.hear e.queued

end Part.TamperStatesTrue

/-! Effects -/

theorem Routine.tamperStatesTrue {m n : Part} (h : Routine m n) (hm : m.TamperStatesTrue) : n.TamperStatesTrue := by
  cases h
  case none | openStop | startLinger | acknowledge | setPass | queueTelegram | clearVolatile => exact hm
  case closeStop => exact hm.closeStop _ _
  case expireLinger => exact hm.closeStop _ _
  case clearTamper => exact hm.onMember _ (Member.cleared_keepsTamperTrue _)
  case nextBatch => exact (hm.of_items (setItems_touches ..)).of_dir rfl
  case returnBatch => exact hm.of_items (returnBatch_touches ..)
  case returnBatches => exact hm.of_items (returnEach_touches ..)
  case warmStart =>
    have hvolatile : m.clearVolatile.TamperStatesTrue := hm
    exact hvolatile.closeLingering.of_items (returnEach_touches ..)

/-- Every effect keeps the tamper states true. -/
theorem Effect.tamperStatesTrue {m n : Part} (h : Effect m n) (hm : m.TamperStatesTrue) : n.TamperStatesTrue := by
  cases h
  case routine h => exact h.tamperStatesTrue hm
  case beginLoad | loadStop | loadProfile | loadClass | finishLoad | startRoute | beginUpload | endSecond => exact hm
  case loadMember => exact hm.fill _ rfl
  case clearRoute | coldStart => exact .of_empty rfl
  case endRoute => exact hm.endRoute
  case skipSweep => exact hm.skipHead _ _
  case confirmBatch =>
    exact (hm.of_items ((setItems_touches ..).trans (retire_touches ..))).finishUpload
  case completeTelegram => exact hm.completeTelegram _

theorem tamperStatesTrue_of_sameBlocks {m n : Part} (h : m.SameBlocks n) (hm : m.TamperStatesTrue) :
    n.TamperStatesTrue := by
  obtain ⟨_, _, _, rfl⟩ := h
  exact hm

/-- Settles O7: every effect keeps the tamper states true, and ports and power do not touch them. -/
theorem tamperStatesStayTrue : Obligations.TamperStatesStayTrue := fun _ _ hs h =>
  step_keeps (fun _ _ => tamperStatesTrue_of_sameBlocks) (fun _ _ => Effect.tamperStatesTrue) h hs

end Sys2Proof.Machine
end

section
/-! SUPPORT. Sets of classes and of indicators: which values the tamper unit's sets hold (R83, R87, R92, R93, R94, R97). -/

namespace Sys2Proof.Machine

/-! Sets -/

/-- Two sets share a value exactly when some value is in both. -/
theorem meets_iff {w : Nat} {a b : BitVec w} :
    meets a b = true ↔ ∃ n, n < w ∧ a.getLsbD n = true ∧ b.getLsbD n = true := by
  rw [meets, bne_iff_ne, Ne, BitVec.eq_of_getLsbD_eq_iff]
  simp

theorem inSet_and {w : Nat} (a b : BitVec w) (n : Nat) : inSet (a &&& b) n = (inSet a n && inSet b n) :=
  BitVec.getLsbD_and

theorem inSet_or {w : Nat} (a b : BitVec w) (n : Nat) : inSet (a ||| b) n = (inSet a n || inSet b n) :=
  BitVec.getLsbD_or

/-- The set of the classes a test accepts holds a class exactly when the test accepts it. -/
theorem inSet_classesWhere {n : Nat} (hn : n < 4) (test : Nat → Bool) : inSet (classesWhere test) n = test n := by
  have hbits : ∀ a b c d : Bool, ∀ i : Fin 4, inSet ((if a then 1 else 0) ||| (if b then 2 else 0) |||
      (if c then 4 else 0) ||| (if d then 8 else 0) : ClassSet) i = ![a, b, c, d] i := by decide
  refine (hbits (test 0) (test 1) (test 2) (test 3) ⟨n, hn⟩).trans ?_
  obtain rfl | rfl | rfl | rfl : n = 0 ∨ n = 1 ∨ n = 2 ∨ n = 3 := by omega
  all_goals rfl

namespace Tamper

variable (u : Tamper) {n : Nat}

theorem inSet_ofMode (hn : n < 4) (mode : ClassMode) : inSet (u.ofMode mode) n = true ↔ (u.classOf n).mode = mode := by
  rw [ofMode, inSet_classesWhere hn, beq_iff_eq]

theorem inSet_ofTiming (hn : n < 4) (timing : Timing) :
    inSet (u.ofTiming timing) n = true ↔ (u.classOf n).timing = timing := by
  rw [ofTiming, inSet_classesWhere hn, beq_iff_eq]

/-- A class fires when its mode is not OFF and an indicator of the hearing is in its mask (R87). -/
theorem inSet_fired (hn : n < 4) (inds : IndicatorSet) : inSet (u.fired inds) n = true ↔
    (u.classOf n).mode ≠ .off ∧ ∃ b, b < 12 ∧ inds.getLsbD b = true ∧ (u.classOf n).mask.getLsbD b = true := by
  rw [fired, inSet_classesWhere hn, Bool.and_eq_true, bne_iff_ne, meets_iff]
  simp only [and_comm]

/-- A stall class has a record: a number without one acts as OFF, which is none (R97, log 14). -/
theorem inSet_stallClasses (hn : n < 4) :
    inSet u.stallClasses n = true ↔ ∃ r, Table.find u.classes n = some r ∧ r.stall = true := by
  rw [stallClasses, inSet_classesWhere hn, classOf]
  cases Table.find u.classes n <;> simp [ClassRecord.off]

/-- The masks of a set of classes hold the indicators that some class of the set tests for. -/
theorem getLsbD_masks (classes : ClassSet) (b : Nat) : (u.masks classes).getLsbD b = true ↔
    ∃ n, n < 4 ∧ inSet classes n = true ∧ (u.classOf n).mask.getLsbD b = true := by
  have gathered : ∀ (l : List Nat) (acc : IndicatorSet),
      (l.foldl (fun acc n => if inSet classes n then acc ||| (u.classOf n).mask else acc) acc).getLsbD b = true ↔
        acc.getLsbD b = true ∨ ∃ n ∈ l, inSet classes n = true ∧ (u.classOf n).mask.getLsbD b = true := by
    intro l acc
    induction l generalizing acc with
    | nil => simp
    | cons n rest ih =>
      rw [List.foldl_cons, ih]
      split_ifs with hn <;> simp [hn, or_assoc]
  rw [masks, gathered, show [0, 1, 2, 3] = List.range 4 from rfl]
  simp

end Tamper

end Sys2Proof.Machine
end

section
/-! SUPPORT. Firing and the tamper fields (R87 to R89, R92, R93). -/

namespace Sys2Proof.Machine

/-! Prompt and deferred reports (R92, R93) -/

section Reports

variable (u : Tamper) (fired : ClassSet) {n : Nat} (hn : n < 4)

include hn

/-- The classes of a hearing that are reported: the firing classes of mode RETRY or LATCH (R92). -/
theorem inSet_reported : inSet (fired &&& (u.ofMode .retry ||| u.ofMode .latch)) n = true ↔
    inSet fired n = true ∧ ((u.classOf n).mode = .retry ∨ (u.classOf n).mode = .latch) := by
  rw [inSet_and, inSet_or, Bool.and_eq_true, Bool.or_eq_true, u.inSet_ofMode hn, u.inSet_ofMode hn]

theorem inSet_promptClasses (closed : Bool) : inSet (promptClasses u fired closed) n = true ↔
    (inSet fired n = true ∧ ((u.classOf n).mode = .retry ∨ (u.classOf n).mode = .latch)) ∧
      ((u.classOf n).timing = .prompt ∨ closed = true) := by
  rw [promptClasses, inSet_or, inSet_and, Bool.or_eq_true, Bool.and_eq_true, inSet_reported u fired hn,
    u.inSet_ofTiming hn]
  cases closed with
  | false => simp [inSet]
  | true =>
    rw [if_pos rfl, inSet_and, Bool.and_eq_true, inSet_reported u fired hn, u.inSet_ofTiming hn, ← and_or_left]
    cases (u.classOf n).timing <;> simp

theorem inSet_deferredClasses (closed : Bool) : inSet (deferredClasses u fired closed) n = true ↔
    (inSet fired n = true ∧ ((u.classOf n).mode = .retry ∨ (u.classOf n).mode = .latch)) ∧
      (u.classOf n).timing = .deferred ∧ closed = false := by
  rw [deferredClasses]
  cases closed with
  | false =>
    rw [if_neg Bool.false_ne_true, inSet_and, Bool.and_eq_true, inSet_reported u fired hn, u.inSet_ofTiming hn,
      eq_self, and_true]
  | true => simp [inSet]

end Reports

/-! The watch map and the tamper state (R88, R89) -/

/-- A table made of one optional entry for each of some keys. -/
theorem Table.find_filterMap {α : Type} (f : Nat → Option α) (l : List Nat) (n : Nat) :
    Table.find (l.filterMap fun n => (f n).map fun c => (n, c)) n = if n ∈ l then f n else none := by
  induction l with
  | nil => rfl
  | cons j rest ih =>
    by_cases hj : j = n
    · subst hj
      cases hf : f j <;> simp [hf, ih, Table.find_cons]
    · cases hf : f j <;> simp [hf, ih, Table.find_cons, hj, Ne.symm hj]

/-- The watch-map entry of each class after a hearing (R88). -/
theorem find_heard_watch (u : Tamper) (fired : ClassSet) (closed : Bool) (r : Member) {n : Nat} (hn : n < 4) :
    Table.find (Member.heard u fired closed r).watch n = watchAfter u fired r.watch n :=
  (Table.find_filterMap (watchAfter u fired r.watch) (List.range 4) n).trans (if_pos (List.mem_range.mpr hn))

/-- A RETRY class that fires starts its count afresh (R88). -/
theorem watchAfter_of_retry {u : Tamper} {fired : ClassSet} {n : Nat} (hfired : inSet fired n = true)
    (hmode : (u.classOf n).mode = .retry) (watch : Table Nat) : watchAfter u fired watch n = some 0 := by
  simp [watchAfter, hfired, hmode]

/-- A clean hearing of a class raises its count, and at its clean count ends the watch (R88). -/
theorem watchAfter_of_clean {u : Tamper} {fired : ClassSet} {n : Nat}
    (h : ¬ (inSet fired n = true ∧ (u.classOf n).mode = .retry)) (watch : Table Nat) :
    watchAfter u fired watch n = (Table.find watch n).bind fun count =>
      if count + 1 < (u.classOf n).clean then some (count + 1) else none := by
  rw [watchAfter, if_neg (by simpa using h)]
  cases Table.find watch n <;> rfl

theorem tamperStateOf_eq (latched : ClassSet) (watch : Table Nat) :
    tamperStateOf latched watch = if latched ≠ 0 then .flagged else if watch ≠ [] then .watch else .clean := by
  simp only [tamperStateOf, bne_iff_ne]

/-- A LATCH class that fires is latched (R87). -/
theorem inSet_heard_latched (u : Tamper) (fired : ClassSet) (closed : Bool) (r : Member) {n : Nat} (hn : n < 4) :
    inSet (Member.heard u fired closed r).latched n = true ↔
      inSet r.latched n = true ∨ (inSet fired n = true ∧ (u.classOf n).mode = .latch) := by
  rw [Member.heard, inSet_or, inSet_and, Bool.or_eq_true, Bool.and_eq_true, u.inSet_ofMode hn]

/-- Settles O31: the tamper fields are formed of sets of classes, whose tests are read off class by class. -/
theorem firingAndTamperFields : Obligations.FiringAndTamperFields := by
  refine ⟨fun u fired closed r n hn => ⟨inSet_promptClasses u fired hn closed, ?_⟩, fun u inds closed r n hn =>
    ⟨u.inSet_fired hn inds, inSet_heard_latched u _ closed r hn, fun hfired hmode => ?_, fun hclean => ?_,
      tamperStateOf_eq .., rfl⟩⟩
  · rw [Member.heard, inSet_or, Bool.or_eq_true, inSet_deferredClasses u fired hn, and_assoc]
  · exact (find_heard_watch u _ closed r hn).trans (watchAfter_of_retry hfired hmode _)
  · have hwatch := (find_heard_watch u (u.fired inds) closed r hn).trans (watchAfter_of_clean hclean r.watch)
    exact ⟨fun hnone => by simpa [hnone] using hwatch, fun count hcount => by simpa [hcount] using hwatch⟩

end Sys2Proof.Machine
end

section
/-! SUPPORT. Alert entries (R94, R96, R97): what an offered entry does, and the deferred entries of a closing stop. -/

namespace Sys2Proof.Machine

/-! An offered entry (R96, R97) -/

/-- A set of classes holds a stall class exactly when the record of one of its classes makes it one (R97). -/
theorem meets_stallClasses_iff (u : Tamper) (classes : ClassSet) : meets classes u.stallClasses = true ↔
    ∃ n r, n < 4 ∧ inSet classes n = true ∧ Table.find u.classes n = some r ∧ r.stall = true := by
  rw [meets_iff]
  constructor
  · rintro ⟨n, hn, hclass, hstall⟩
    obtain ⟨r, hfind, hr⟩ := (u.inSet_stallClasses hn).mp hstall
    exact ⟨n, r, hn, hclass, hfind, hr⟩
  · rintro ⟨n, r, hn, hclass, hfind, hr⟩
    exact ⟨n, hn, hclass, (u.inSet_stallClasses hn).mpr ⟨r, hfind, hr⟩⟩

/-- The event of STALLED's beginning, when an entry begins it (R97). -/
def Part.stallEvent (m : Part) (a : Alert) : EventSet :=
  if meets a.classes m.tamper.stallClasses && !m.tamper.stalled then evStallBegan else 0

/-- An entry that finds room is queued at the tail (R96). -/
theorem Part.offerAlert_queued {m : Part} (h : m.tamper.alerts.length < 32) (a : Alert) :
    m.offerAlert a = Part.setShared (evAlertQueued ||| m.stallEvent a) { m with
      tamper := { m.tamper with
        alerts := m.tamper.alerts ++ [a]
        stalled := m.tamper.stalled || meets a.classes m.tamper.stallClasses } } := by
  unfold Part.offerAlert Part.stallEvent
  rw [Config.alertPlaces, if_pos h]
  cases meets a.classes m.tamper.stallClasses with
  | false => simp [Part.setShared]
  | true => cases m.tamper.stalled <;> simp [Part.setShared, BitVec.or_assoc]

/-- An entry that finds the queue full is lost (R96). -/
theorem Part.offerAlert_lost {m : Part} (h : ¬ m.tamper.alerts.length < 32) (a : Alert) :
    m.offerAlert a = Part.setShared (evAlertOverflow ||| m.stallEvent a) { m with
      tamper := { m.tamper with stalled := m.tamper.stalled || meets a.classes m.tamper.stallClasses } } := by
  unfold Part.offerAlert Part.stallEvent
  rw [Config.alertPlaces, if_neg h]
  cases meets a.classes m.tamper.stallClasses with
  | false => simp [Part.setShared]
  | true => cases m.tamper.stalled <;> simp [Part.setShared, BitVec.or_assoc]

/-- Settles O32: the entry is queued or lost, and its stall classes are read off class by class. -/
theorem alertOffered : Obligations.AlertOffered :=
  ⟨fun u _ hn => u.inSet_stallClasses hn, meets_stallClasses_iff,
    fun a _ => ⟨fun hroom => Part.offerAlert_queued hroom a, fun hfull => Part.offerAlert_lost hfull a⟩⟩

/-! The deferred entries of a closing stop (R94) -/

/-- An indicator of a member's reading record. -/
theorem getLsbD_recordIndicators (store : List Record) (record : Option Nat) (b : Nat) :
    ((record.bind (fun i => store[i]?)).elim 0 Record.indicators).getLsbD b = true ↔
      ∃ i q, record = some i ∧ store[i]? = some q ∧ q.indicators.getLsbD b = true := by
  cases record with
  | none => simp
  | some i => cases hi : store[i]? <;> simp [hi]

theorem deferredAlert_indicators (m : Part) (r : Member) (b : Nat) : (m.deferredAlert r).indicators.getLsbD b = true ↔
    (∃ i q, r.record = some i ∧ m.store[i]? = some q ∧ q.indicators.getLsbD b = true) ∧
      ∃ n, n < 4 ∧ inSet r.deferred n = true ∧ (m.tamper.classOf n).mask.getLsbD b = true := by
  rw [Part.deferredAlert, BitVec.getLsbD_and, Bool.and_eq_true, getLsbD_recordIndicators, m.tamper.getLsbD_masks]

theorem inKeyOrder_perm (l : List (Nat × Member)) : (inKeyOrder l).Perm l := orderBy_perm l

theorem inKeyOrder_pairwise (l : List (Nat × Member)) :
    (inKeyOrder l).Pairwise (fun a b => b.2.key.before a.2.key = false) := by
  refine orderBy_pairwise (fun x y => ?_) (fun x y z => ?_) l <;>
    simp only [← Bool.not_eq_true, Key.before_iff] <;> omega

/-- The members whose deferred entries the close of a stop produces, in their order (R94). -/
def Directory.deferredOf (d : Directory) (stop : Nat) : List (Nat × Member) :=
  inKeyOrder ((d.ofStop stop).filter (fun e => e.2.deferred != 0))

theorem Directory.deferredOf_perm (d : Directory) (stop : Nat) :
    (d.deferredOf stop).Perm (d.ways.filter (fun e => e.2.stop == stop && e.2.deferred != 0)) := by
  refine (inKeyOrder_perm _).trans (.of_eq ?_)
  rw [Directory.ofStop, List.filter_filter]
  simp only [Bool.and_comm]

/-- A member of the directory is reported exactly when it is the stop's and has a deferred-pending set. -/
theorem Directory.mem_deferredOf {d : Directory} (hc : Table.Canonical d.ways) {p : Nat} {r : Member}
    (hfind : Table.find d.ways p = some r) (stop : Nat) :
    p ∈ (d.deferredOf stop).map Prod.fst ↔ r.stop = stop ∧ r.deferred ≠ 0 := by
  have hmem : ∀ e, e ∈ d.deferredOf stop ↔ e ∈ d.ways ∧ e.2.stop = stop ∧ e.2.deferred ≠ 0 := by
    simp [(d.deferredOf_perm stop).mem_iff]
  rw [List.mem_map]
  constructor
  · rintro ⟨e, he, rfl⟩
    obtain ⟨hin, hstop, hdeferred⟩ := (hmem e).mp he
    cases (hc.find_of_mem hin).symm.trans hfind
    exact ⟨hstop, hdeferred⟩
  · rintro ⟨hstop, hdeferred⟩
    exact ⟨(p, r), (hmem _).mpr ⟨Table.mem_of_find hfind, hstop, hdeferred⟩, rfl⟩

/-- Every deferred-pending set of the stop's members is empty once its entries have been produced, and no other is touched (R94). -/
theorem find_emptyDeferred_of_stop {d : Directory} (hc : Table.Canonical d.ways) (stop p : Nat) :
    Table.find (emptyDeferred (d.deferredOf stop) d.ways) p =
      (Table.find d.ways p).map (fun r => if r.stop = stop then r.reported else r) := by
  rw [find_emptyDeferred]
  cases hfind : Table.find d.ways p with
  | none => rfl
  | some r =>
    simp only [Option.map_some, Directory.mem_deferredOf hc hfind]
    by_cases hdeferred : r.deferred = 0
    · have hreported : r.reported = r := by rw [Member.reported, ← hdeferred]
      simp only [hreported, ite_self]
    · simp only [ne_eq, hdeferred, not_false_eq_true, and_true]

/-- Settles O33: the members reported are those of the stop with a deferred-pending set, one after another. -/
theorem deferredEntriesOfAClose : Obligations.DeferredEntriesOfAClose :=
  ⟨fun m r => ⟨_, rfl, fun b _ => deferredAlert_indicators m r b⟩, fun n m halerts hc =>
    ⟨m.dir.deferredOf n, emptyDeferred (m.dir.deferredOf n) m.dir.ways, m.dir.deferredOf_perm n, inKeyOrder_pairwise _,
      find_emptyDeferred_of_stop hc n, reportEach_eq _ halerts⟩⟩

end Sys2Proof.Machine
end

section
/-! SUPPORT. ACKNOWLEDGE ALERT, SET PASS and CLEAR TAMPER (R98, R100, R102). -/

namespace Sys2Proof.Machine

/-! Alerts and PASS -/

theorem serveAcknowledgeAlert_badValue {body : List Byte} (h : body ≠ []) (tag : Byte) (m : Part) :
    serveAcknowledgeAlert tag body m = m.answer .cab tag .badValue .none := by
  simp [serveAcknowledgeAlert, emptyBody_eq_isEmpty, h, Part.refuse]

/-- On an empty queue no entry holds STALLED (R98). -/
theorem serveAcknowledgeAlert_empty {m : Part} (h : m.tamper.alerts = []) (tag : Byte) :
    serveAcknowledgeAlert tag [] m = Part.answer .cab tag .empty (.acknowledged none false 0)
      { m with tamper := { m.tamper with stalled := false } } := by
  simp [serveAcknowledgeAlert, emptyBody, stalledAfter, h]

/-- The head entry leaves, and STALLED is held by an entry that remains (R98). -/
theorem serveAcknowledgeAlert_head {m : Part} {a : Alert} {rest : List Alert} (h : m.tamper.alerts = a :: rest)
    (tag : Byte) : serveAcknowledgeAlert tag [] m =
      Part.answer .cab tag .ok (.acknowledged (some a)
        (m.tamper.stalled && rest.any (fun x => meets x.classes m.tamper.stallClasses)) rest.length)
      { m with tamper := { m.tamper with
        alerts := rest
        stalled := m.tamper.stalled && rest.any (fun x => meets x.classes m.tamper.stallClasses) } } := by
  simp [serveAcknowledgeAlert, emptyBody, stalledAfter, h, Bool.and_comm]

theorem passOf_length {body : List Byte} {value : Bool} (h : passOf body = some value) : body.length + 2 ≤ 64 := by
  unfold passOf at h
  split_ifs at h with hlength
  omega

theorem serveSetPass_taken {body : List Byte} {value : Bool} (h : passOf body = some value) (tag : Byte) (m : Part) :
    serveSetPass tag body m = Part.answer .cab tag .ok (.pass value m.tamper.stalled)
      { m with tamper := { m.tamper with pass := value } } := by
  simp only [serveSetPass, h]

/-- Settles O46: both requests are the cab's, served at once. -/
theorem alertsAcknowledgedAndPassSet : Obligations.AlertsAcknowledgedAndPassSet := by
  intro tag body s hready
  have acknowledged : ∀ {body : List Byte} {m : Part}, body.length + 2 ≤ 64 →
      serveAcknowledgeAlert tag body s.part = m → Becomes (.acknowledgeAlert tag body) s m := fun hfits h =>
    request_becomes (p := .cab) (r := .acknowledgeAlert) (by decide) hready hfits h
  exact ⟨fun hbody hfits => acknowledged hfits (serveAcknowledgeAlert_badValue hbody tag s.part),
    fun halerts => acknowledged (by decide) (serveAcknowledgeAlert_empty halerts tag),
    fun a rest halerts => acknowledged (by decide) (serveAcknowledgeAlert_head halerts tag),
    fun value hvalue => request_becomes (p := .cab) (r := .setPass) (by decide) hready (passOf_length hvalue)
      (serveSetPass_taken hvalue tag s.part)⟩

/-! CLEAR TAMPER -/

/-- Changing an entry is writing what it is changed to. -/
theorem Table.modify_eq_put {α : Type} {t : Table α} (hc : Table.Canonical t) {k : Nat} {v : α}
    (h : Table.find t k = some v) (f : α → α) : Table.modify k f t = Table.put k (f v) t := by
  induction t with
  | nil => cases h
  | cons e rest ih =>
    obtain ⟨j, w⟩ := e
    rw [Table.find_cons] at h
    unfold Table.put
    by_cases hj : j = k
    · subst hj
      cases (by simpa using h : w = v)
      have hrest : Table.modify j f rest = rest :=
        (List.map_congr_left fun e he => if_neg (hc.head_lt e he).ne').trans (List.map_id rest)
      simpa [Table.modify] using hrest
    · rw [if_neg hj] at h
      have hlt : j < k := hc.head_lt (k, v) (Table.mem_of_find h)
      rw [if_neg (by omega), if_neg (Ne.symm hj), ← ih hc.tail h]
      simp [Table.modify, hj]

theorem clearTamperOf_length {body : List Byte} {e : Key × ClassSet} (h : clearTamperOf body = some e) :
    body.length + 2 ≤ 64 := by
  unfold clearTamperOf at h
  split_ifs at h with hlength
  omega

section ClearTamper

variable {body : List Byte} {k : Key} {classes : ClassSet} {m : Part} (hempty : m.route.state ≠ .empty)
  (hloading : m.route.state ≠ .loading) (hbody : clearTamperOf body = some (k, classes))

include hempty hloading hbody

theorem serveClearTamper_notFound (h : m.dir.lookup k = none) (tag : Byte) :
    serveClearTamper tag body m = m.answer .depot tag .notFound .none := by
  simp only [serveClearTamper, hempty, hloading, or_self, if_false, hbody, h]
  rfl

theorem serveClearTamper_taken {p : Nat} {r : Member} (h : m.dir.lookup k = some (p, r))
    (hc : Table.Canonical m.dir.ways) (tag : Byte) : serveClearTamper tag body m =
      Part.answer .depot tag .ok (.tamperFields (r.cleared classes).tamper (r.cleared classes).latched
          (r.cleared classes).watch (r.cleared classes).deferred)
        { m with dir := { m.dir with ways := Table.put p (r.cleared classes) m.dir.ways } } := by
  simp only [serveClearTamper, hempty, hloading, or_self, if_false, hbody, h]
  rw [Part.onMember, Table.modify_eq_put hc (find_of_lookup hc h)]

end ClearTamper

/-- Settles O47: the member found is written back with its classes cleared. -/
theorem clearTamperRemovesClasses : Obligations.ClearTamperRemovesClasses := by
  intro tag body k classes s hready hempty hloading hbody
  have becomes : ∀ {m : Part}, serveClearTamper tag body s.part = m → Becomes (.clearTamper tag body) s m :=
    request_becomes (p := .depot) (r := .clearTamper) (by decide) hready (clearTamperOf_length hbody)
  exact ⟨fun hnone => becomes (serveClearTamper_notFound hempty hloading hbody hnone tag), fun p r hfound hc =>
    ⟨r.cleared classes, rfl, rfl, rfl, tamperStateOf_eq .., rfl,
      becomes (serveClearTamper_taken hempty hloading hbody hfound hc tag)⟩⟩

end Sys2Proof.Machine
end

section
/-! SUPPORT. The sweep list and the reading store (R7, R54, R62, R120): the sweep list as the CARRIED members, the store as the READ
members' records, and the changes of one member that keep both. -/

namespace Sys2Proof.Machine

/-! What the sweep list and the store read of a member -/

/-- The fields of a member that the sweep list and the reading store stand for. -/
structure Standing where
  key : Key
  stop : Nat
  readState : ReadState
  record : Option Nat

def Member.standing (r : Member) : Standing := ⟨r.key, r.stop, r.readState, r.record⟩

/-- A CARRIED member's entry of the sweep list (R120). -/
def Standing.entry (x : Standing) : SweepEntry := ⟨x.key, x.stop⟩

/-- The members' standings, in the order of their positions. -/
def Directory.standings (d : Directory) : List Standing := d.ways.map (fun e => e.2.standing)

/-- The index and the key of each reading record. -/
def Part.stubs (m : Part) : List (Nat × Key) := m.store.map (fun e => (e.index, e.key))

theorem Directory.standings_nil {d : Directory} (h : d.ways = []) : d.standings = [] := by rw [Directory.standings, h]; rfl

/-- A canonical table stands about an entry it holds, and a change of that entry changes nothing else. -/
theorem Table.exists_split {α : Type} {t : Table α} (hc : Table.Canonical t) {k : Nat} {v : α} (h : Table.find t k = some v) :
    ∃ a b, t = a ++ (k, v) :: b ∧ ∀ f : α → α, Table.modify k f t = a ++ (k, f v) :: b := by
  induction t with
  | nil => cases h
  | cons e rest ih =>
    obtain ⟨j, w⟩ := e
    rw [Table.find_cons] at h
    by_cases hj : j = k
    · subst hj
      cases (by simpa using h : w = v)
      exact ⟨[], rest, rfl, fun f => (Table.modify_eq_put hc ((Table.find_cons ..).trans (if_pos rfl)) f).trans
        (by simp [Table.put])⟩
    · rw [if_neg hj] at h
      obtain ⟨a, b, hrest, hmodify⟩ := ih hc.tail h
      refine ⟨(j, w) :: a, b, by simp [hrest], fun f => ?_⟩
      have hf := hmodify f
      unfold Table.modify at hf ⊢
      simp [hj, hf]

/-- One member's standing among the others, and what a change of that member makes of it. -/
theorem Directory.standings_split {d : Directory} (hc : Table.Canonical d.ways) {p : Nat} {r : Member}
    (h : Table.find d.ways p = some r) : ∃ a b, d.standings = a ++ r.standing :: b ∧
      ∀ (f : Member → Member) (c : DirCounts),
        (Directory.mk (Table.modify p f d.ways) c).standings = a ++ (f r).standing :: b := by
  obtain ⟨a, b, hways, hmodify⟩ := Table.exists_split hc h
  refine ⟨a.map (fun e => e.2.standing), b.map (fun e => e.2.standing), ?_, fun f c => ?_⟩
  · simp [Directory.standings, hways]
  · simp [Directory.standings, hmodify]

/-! The sweep list -/

/-- The sweep list lists the CARRIED members, each once (R120). -/
def Sweeps (l : List Standing) (sweep : List SweepEntry) : Prop :=
  sweep.Perm ((l.filter (fun x => x.readState == .carried)).map Standing.entry)

variable {a b : List Standing} {x : Standing} {sweep rest : List SweepEntry}

/-- A member that becomes CARRIED joins the list's tail (R115). -/
theorem Sweeps.carry (h : Sweeps (a ++ x :: b) sweep) (hx : x.readState = .unread) :
    Sweeps (a ++ { x with readState := .carried } :: b) (sweep ++ [x.entry]) := by
  simp only [Sweeps, List.filter_append, List.filter_cons, hx, List.map_append] at h ⊢
  exact (List.perm_append_singleton ..).trans ((h.cons _).trans List.perm_middle.symm)

/-- A member that was and is not CARRIED leaves the list as it was. -/
theorem Sweeps.pass {y : Standing} (h : Sweeps (a ++ x :: b) sweep) (hx : x.readState ≠ .carried)
    (hy : y.readState ≠ .carried) : Sweeps (a ++ y :: b) sweep := by
  simpa [Sweeps, List.filter_cons, hx, hy] using h

/-- A CARRIED member that becomes something else leaves the list, wherever its entry stands (R120, R122). -/
theorem Sweeps.drop {y : Standing} (h : Sweeps (a ++ x :: b) sweep) (hx : x.readState = .carried)
    (hy : y.readState ≠ .carried) (hrest : sweep.Perm (x.entry :: rest)) : Sweeps (a ++ y :: b) rest := by
  have hentries := hrest.symm.trans h
  simp only [Sweeps, List.filter_append, List.filter_cons, hx, List.map_append] at hentries ⊢
  simpa [hy] using (hentries.trans List.perm_middle).cons_inv

/-- The entry of a CARRIED member is the only one with its key. -/
theorem Sweeps.filter_key (h : Sweeps (a ++ x :: b) sweep) (hkeys : ((a ++ x :: b).map Standing.key).Nodup)
    (hx : x.readState = .carried) : sweep.Perm (x.entry :: sweep.filter (fun e => e.key != x.key)) := by
  have hne : ∀ y ∈ a ++ b, y.key ≠ x.key := by
    rw [List.map_append, List.map_cons, List.nodup_middle, List.nodup_cons, ← List.map_append, List.mem_map] at hkeys
    exact fun y hy heq => hkeys.1 ⟨y, hy, heq⟩
  have hothers : ∀ l : List Standing, (∀ y ∈ l, y ∈ a ++ b) →
      ((l.filter (fun x => x.readState == .carried)).map Standing.entry).filter (fun e => e.key != x.key) =
        (l.filter (fun x => x.readState == .carried)).map Standing.entry := by
    intro l hl
    refine List.filter_eq_self.mpr fun e he => ?_
    obtain ⟨y, hy, rfl⟩ := List.mem_map.mp he
    simpa [Standing.entry] using hne y (hl y (List.mem_filter.mp hy).1)
  have ha := hothers a fun _ => List.mem_append_left b
  have hb := hothers b fun _ => List.mem_append_right a
  have hfiltered := h.filter (fun e => e.key != x.key)
  simp only [Sweeps, List.filter_append, List.filter_cons, hx, List.map_append] at h hfiltered
  simp only [beq_self_eq_true, if_true, List.map_cons, List.filter_cons, ha, hb] at hfiltered
  refine h.trans ?_
  simp only [beq_self_eq_true, if_true, List.map_cons]
  refine List.perm_middle.trans (List.Perm.cons _ ?_)
  simpa [Standing.entry] using hfiltered.symm

/-! The reading store -/

/-- The store holds the records of the READ members, each at its own index (R7, R54, R62). -/
structure Stores (l : List Standing) (stubs : List (Nat × Key)) : Prop where
  index : ∀ (i : Nat) e, stubs[i]? = some e → e.1 = i
  read : ∀ y ∈ l, y.readState = .read ↔ y.record.isSome = true
  own : ∀ y ∈ l, ∀ i, y.record = some i → ∃ e, stubs[i]? = some e ∧ e.2 = y.key
  length : stubs.length = l.countP (fun y => y.readState == .read)

/-- A member that was and is not READ leaves the store as it was. -/
theorem Stores.pass {stubs : List (Nat × Key)} (h : Stores (a ++ x :: b) stubs) (hx : x.readState ≠ .read)
    {q : ReadState} (hq : q ≠ .read) : Stores (a ++ { x with readState := q } :: b) stubs where
  index := h.index
  read := by
    have hread := h.read
    simp only [List.forall_mem_append, List.forall_mem_cons, hx, hq] at hread ⊢
    exact hread
  own := by simpa only [List.forall_mem_append, List.forall_mem_cons] using h.own
  length := by simpa [List.countP_cons, hx, hq] using h.length

/-- A member that becomes READ has the record that joins the store's tail (R53, R54). -/
theorem Stores.hear {stubs : List (Nat × Key)} (h : Stores (a ++ x :: b) stubs) (hx : x.readState ≠ .read) :
    Stores (a ++ { x with readState := .read, record := some stubs.length } :: b)
      (stubs ++ [(stubs.length, x.key)]) where
  index i e he := by
    rw [List.getElem?_append] at he
    split_ifs at he with hi
    · exact h.index i e he
    · rw [List.getElem?_singleton] at he
      split_ifs at he
      cases he
      dsimp only
      omega
  read := by
    have hread := h.read
    simp only [List.forall_mem_append, List.forall_mem_cons] at hread ⊢
    exact ⟨hread.1, by simp, hread.2.2⟩
  own := by
    have hown : ∀ y ∈ a ++ x :: b, ∀ i, y.record = some i →
        ∃ e, (stubs ++ [(stubs.length, x.key)])[i]? = some e ∧ e.2 = y.key := by
      intro y hy i hi
      obtain ⟨e, he, hkey⟩ := h.own y hy i hi
      exact ⟨e, by rw [List.getElem?_append_left (List.getElem?_eq_some_iff.mp he).1, he], hkey⟩
    simp only [List.forall_mem_append, List.forall_mem_cons] at hown ⊢
    refine ⟨hown.1, ?_, hown.2.2⟩
    rintro i ⟨⟩
    exact ⟨(stubs.length, x.key), by simp, rfl⟩
  length := by
    have hlength := h.length
    simp [hx] at hlength ⊢
    omega

/-! The two conditions of the part -/

/-- The sweep list and the store are those of the members. -/
structure Part.Books (m : Part) : Prop where
  sweeps : Sweeps m.dir.standings m.stops.sweep
  stores : Stores m.dir.standings m.stubs

theorem Part.KeysTrue.nodup_keys {m : Part} (h : m.KeysTrue) : (m.dir.standings.map Standing.key).Nodup := by
  rw [Directory.standings, List.map_map]
  exact h.2.2

/-- Where no key is held twice, the sweep list's condition is that it lists the CARRIED members. -/
theorem Part.sweepTrue_iff {m : Part} (hkeys : m.KeysTrue) : m.SweepTrue ↔ Sweeps m.dir.standings m.stops.sweep := by
  have hcarried : (m.dir.standings.filter (fun x => x.readState == .carried)).map Standing.entry =
      (m.dir.ways.filter (fun e => e.2.readState == .carried)).map (fun e => ⟨e.2.key, e.2.stop⟩) := by
    rw [Directory.standings, List.filter_map, List.map_map]
    rfl
  have hnodup : (((m.dir.ways.filter (fun e => e.2.readState == .carried)).map
      (fun e => SweepEntry.mk e.2.key e.2.stop)).map SweepEntry.key).Nodup := by
    rw [List.map_map]
    exact hkeys.2.2.sublist (List.filter_sublist.map _)
  have hunique : ∀ d ∈ m.dir.ways, ∀ e ∈ m.dir.ways, d.2.key = e.2.key → d = e := fun d hd e he =>
    List.inj_on_of_nodup_map hkeys.2.2 hd he
  rw [Sweeps, hcarried]
  constructor
  · rintro ⟨hsweep, hmember, hentry⟩
    refine (List.perm_ext_iff_of_nodup (List.Nodup.of_map _ hsweep) (List.Nodup.of_map _ hnodup)).mpr fun x => ?_
    simp only [List.mem_map, List.mem_filter, beq_iff_eq]
    constructor
    · intro hx
      obtain ⟨e, he, hkey, hstop, hstate⟩ := hmember x hx
      exact ⟨e, ⟨he, hstate⟩, by rw [hkey, hstop]⟩
    · rintro ⟨e, ⟨he, hstate⟩, rfl⟩
      obtain ⟨y, hy, hykey⟩ := hentry e he hstate
      obtain ⟨d, hd, hkey, hstop, _⟩ := hmember y hy
      cases hunique d hd e he (hkey.trans hykey)
      rwa [hkey, hstop]
  · intro hperm
    refine ⟨(hperm.map _).nodup_iff.mpr hnodup, fun x hx => ?_, fun e he hstate => ?_⟩
    · obtain ⟨e, he, rfl⟩ := List.mem_map.mp (hperm.mem_iff.mp hx)
      obtain ⟨he, hstate⟩ := List.mem_filter.mp he
      exact ⟨e, he, rfl, rfl, by simpa using hstate⟩
    · have hx := hperm.mem_iff.mpr (List.mem_map_of_mem (List.mem_filter.mpr ⟨he, by simpa using hstate⟩))
      exact ⟨_, hx, rfl⟩

theorem Part.storeTrue_iff {m : Part} : m.StoreTrue ↔ Stores m.dir.standings m.stubs := by
  have hstub : ∀ {i : Nat} {e}, m.stubs[i]? = some e ↔ ∃ r : Record, m.store[i]? = some r ∧ (r.index, r.key) = e := by
    simp [Part.stubs]
  have hcount : m.dir.standings.countP (fun y => y.readState == .read) = m.dir.inState .read := by
    rw [Directory.standings, List.countP_map]
    rfl
  have hlength : m.stubs.length = m.store.length := List.length_map ..
  constructor
  · rintro ⟨hindex, hread, hown, hrecords⟩
    refine ⟨fun i e he => ?_, List.forall_mem_map.mpr hread, List.forall_mem_map.mpr fun e he i hi => ?_,
      by rw [hlength, hcount, hrecords]⟩
    · obtain ⟨r, hr, rfl⟩ := hstub.mp he
      exact hindex i r hr
    · obtain ⟨r, hr, hkey⟩ := hown e he i hi
      exact ⟨_, hstub.mpr ⟨r, hr, rfl⟩, hkey⟩
  · rintro ⟨hindex, hread, hown, hrecords⟩
    refine ⟨fun i r hr => hindex i _ (hstub.mpr ⟨r, hr, rfl⟩), List.forall_mem_map.mp hread, fun e he i hi => ?_,
      by rw [← hlength, ← hcount, hrecords]⟩
    obtain ⟨_, he, hkey⟩ := List.forall_mem_map.mp hown e he i hi
    obtain ⟨r, hr, rfl⟩ := hstub.mp he
    exact ⟨r, hr, hkey⟩

theorem Part.books_iff {m : Part} (hkeys : m.KeysTrue) : m.Books ↔ m.SweepTrue ∧ m.StoreTrue := by
  rw [Part.sweepTrue_iff hkeys, Part.storeTrue_iff]
  exact ⟨fun h => ⟨h.sweeps, h.stores⟩, fun ⟨hsweeps, hstores⟩ => ⟨hsweeps, hstores⟩⟩

end Sys2Proof.Machine
end

section
/-! SUPPORT. What every effect makes of the sweep list and the reading store (R7, R54, R62, R120). -/

namespace Sys2Proof.Machine

/-! What leaves members' standings, sweep list and records as they were -/

/-- The parts have the same members in the same read states, the same sweep list, and the same records one for one. -/
structure SameBooks (m n : Part) : Prop where
  members : n.dir.standings = m.dir.standings
  sweep : n.stops.sweep = m.stops.sweep
  stubs : n.stubs = m.stubs

theorem SameBooks.refl (m : Part) : SameBooks m m := ⟨rfl, rfl, rfl⟩

theorem SameBooks.trans {m n k : Part} (h : SameBooks m n) (h' : SameBooks n k) : SameBooks m k where
  members := h'.members.trans h.members
  sweep := h'.sweep.trans h.sweep
  stubs := h'.stubs.trans h.stubs

theorem SameBooks.books {m n : Part} (h : SameBooks m n) (hm : m.Books) : n.Books := by
  obtain ⟨hsweeps, hstores⟩ := hm
  exact ⟨by rwa [h.members, h.sweep], by rwa [h.members, h.stubs]⟩

theorem sameBooks_foldl {α : Type} {f : Part → α → Part} (h : ∀ m x, SameBooks m (f m x)) (l : List α) (m : Part) :
    SameBooks m (l.foldl f m) :=
  List.foldlRecOn l f (SameBooks.refl m) fun _ hm x _ => hm.trans (h _ x)

theorem sameBooks_of_sameBlocks {m n : Part} (h : m.SameBlocks n) : SameBooks m n := by
  obtain ⟨_, _, _, rfl⟩ := h
  exact ⟨rfl, rfl, rfl⟩

/-- A change of tamper fields is no change of a member's standing. -/
theorem onMember_sameBooks {f : Member → Member} (hf : Member.TampersAlone f) (p : Nat) (m : Part) :
    SameBooks m (m.onMember p f) := by
  have hstanding : ∀ r, (f r).standing = r.standing := by
    intro r
    obtain ⟨_, _, _, _, heq⟩ := hf r
    rw [heq]
    rfl
  refine ⟨?_, rfl, rfl⟩
  have hways := congrArg (List.map Prod.snd) (Table.map_modify_of_kept Member.standing hstanding p m.dir.ways)
  rwa [List.map_map, List.map_map] at hways

theorem offerAlert_sameBooks (a : Alert) (m : Part) : SameBooks m (m.offerAlert a) := by
  obtain ⟨_, _, _, heq, _, _⟩ := m.offerAlert_cases a
  rw [heq]
  exact ⟨rfl, rfl, rfl⟩

theorem reportDeferred_sameBooks (m : Part) (e : Nat × Member) : SameBooks m (m.reportDeferred e) :=
  (onMember_sameBooks (fun _ => ⟨_, _, _, _, rfl⟩) ..).trans (offerAlert_sameBooks ..)

theorem tamperOutcome_sameBooks (p : Nat) (r : Member) (inds : IndicatorSet) (m : Part) :
    SameBooks m (m.tamperOutcome p r inds).part := by
  have hmember := onMember_sameBooks (Member.heard_tampersAlone m.tamper (m.tamper.fired inds)
    (m.stopState r.stop == some .closed)) p m
  unfold Part.tamperOutcome
  dsimp only
  split_ifs
  · exact hmember
  · exact hmember.trans (offerAlert_sameBooks ..)

/-- A change of the records that leaves each its index and its key. -/
theorem store_sameBooks {store : List Record} {m : Part}
    (h : store.map (fun e => (e.index, e.key)) = m.store.map (fun e => (e.index, e.key))) :
    SameBooks m { m with store := store } := ⟨rfl, rfl, h⟩

theorem stubs_modify {f : Record → Record} (h : ∀ e, ((f e).index, (f e).key) = (e.index, e.key)) (i : Nat)
    (store : List Record) :
    (store.modify i f).map (fun e => (e.index, e.key)) = store.map (fun e => (e.index, e.key)) := by
  refine List.ext_getElem? fun j => ?_
  rw [List.getElem?_map, List.getElem?_map, List.getElem?_modify]
  cases store[j]? with
  | none => rfl
  | some e => split_ifs <;> simp [h]

theorem setItem_sameBooks (s : UploadState) (batch : Option Nat) (m : Part) (n : Nat) :
    SameBooks m (m.setItem s batch n) := by
  unfold Part.setItem
  split
  · exact .refl m
  · exact store_sameBooks (stubs_modify (f := fun e => { e with upload := s, batch := batch }) (fun _ => rfl) ..)
  · exact ⟨rfl, rfl, rfl⟩
  · exact ⟨rfl, rfl, rfl⟩

theorem setItems_sameBooks (s : UploadState) (batch : Option Nat) (numbers : List Nat) (m : Part) :
    SameBooks m (m.setItems s batch numbers) := sameBooks_foldl (setItem_sameBooks s batch) ..

theorem retire_sameBooks (number : Nat) (m : Part) : SameBooks m (m.retire number) := ⟨rfl, rfl, rfl⟩

theorem returnBatch_sameBooks (m : Part) (b : Batch) : SameBooks m (m.returnBatch b) :=
  (setItems_sameBooks ..).trans (retire_sameBooks ..)

theorem returnBatches_sameBooks (m : Part) : SameBooks m m.returnBatches := sameBooks_foldl returnBatch_sameBooks ..

theorem formBatch_sameBooks (number : Nat) (numbers : List Nat) (m : Part) :
    SameBooks m (m.formBatch number numbers) :=
  (setItems_sameBooks .batched (some number) numbers m).trans ⟨rfl, rfl, rfl⟩

theorem formOrder_sameBooks (m : Part) : SameBooks m m.formOrder := by
  refine ⟨rfl, rfl, ?_⟩
  rw [Part.stubs, Part.formOrder, List.map_map]
  rfl

theorem finishUpload_sameBooks (m : Part) : SameBooks m m.finishUpload := by
  obtain h | h := finishUpload_cases m <;> rw [h] <;> exact ⟨rfl, rfl, rfl⟩

/-! Members that leave UNREAD, CARRIED or MISSED -/

theorem Table.modify_modify {α : Type} (k : Nat) (f g : α → α) (t : Table α) :
    Table.modify k g (Table.modify k f t) = Table.modify k (g ∘ f) t := by
  unfold Table.modify
  rw [List.map_map]
  refine List.map_congr_left fun e _ => ?_
  simp only [Function.comp_apply]
  split_ifs <;> rfl

section Members

variable {m : Part} {p : Nat} {r : Member}

/-- A read-state transition changes the one standing. -/
theorem Part.standings_setReadState (hc : Table.Canonical m.dir.ways) (hfind : Table.find m.dir.ways p = some r) :
    ∃ a b, m.dir.standings = a ++ r.standing :: b ∧
      ∀ q, (m.setReadState p q).dir.standings = a ++ { r.standing with readState := q } :: b := by
  obtain ⟨a, b, hstandings, hmodify⟩ := Directory.standings_split hc hfind
  refine ⟨a, b, hstandings, fun q => ?_⟩
  rw [setReadState_of_find hfind]
  exact hmodify ..

theorem Part.stubs_setReadState (m : Part) (p : Nat) (q : ReadState) : (m.setReadState p q).stubs = m.stubs := by
  rw [Part.stubs, Part.setReadState_store, Part.stubs]

/-- An UNREAD member is carried (R115). -/
theorem Part.Books.carry (hm : m.Books) (hc : Table.Canonical m.dir.ways) (hfind : Table.find m.dir.ways p = some r)
    (hr : r.readState = .unread) :
    ((m.setReadState p .carried).onStops (fun u => { u with sweep := u.sweep ++ [⟨r.key, r.stop⟩] })).Books := by
  obtain ⟨a, b, hstandings, hset⟩ := Part.standings_setReadState hc hfind
  obtain ⟨hsweeps, hstores⟩ := hm
  rw [hstandings] at hsweeps hstores
  have hread : r.standing.readState ≠ .read := ne_of_eq_of_ne hr (by decide)
  constructor
  · rw [Part.onStops_dir, Part.onStops_stops, Part.setReadState_stops, hset]
    exact hsweeps.carry hr
  · change Stores (m.setReadState p .carried).dir.standings (m.setReadState p .carried).stubs
    rw [hset, Part.stubs_setReadState]
    exact hstores.pass hread (by decide)

/-- An UNREAD member is given up (R114, R115). -/
theorem Part.Books.miss (hm : m.Books) (hc : Table.Canonical m.dir.ways) (hfind : Table.find m.dir.ways p = some r)
    (hr : r.readState = .unread) : (m.setReadState p .missed).Books := by
  obtain ⟨a, b, hstandings, hset⟩ := Part.standings_setReadState hc hfind
  obtain ⟨hsweeps, hstores⟩ := hm
  rw [hstandings] at hsweeps hstores
  have hread : r.standing.readState ≠ .read := ne_of_eq_of_ne hr (by decide)
  have hcarried : r.standing.readState ≠ .carried := ne_of_eq_of_ne hr (by decide)
  constructor
  · rw [hset, Part.setReadState_stops]
    exact hsweeps.pass hcarried nofun
  · rw [hset, Part.stubs_setReadState]
    exact hstores.pass hread (by decide)

/-- The head of the sweep list is a CARRIED member, which the head's key finds (R120). -/
theorem Part.SweepTrue.head (hm : m.SweepTrue) (hkeys : m.KeysTrue) {e : SweepEntry} {rest : List SweepEntry}
    (hhead : m.stops.sweep = e :: rest) :
    ∃ p r, m.dir.lookup e.key = some (p, r) ∧ r.readState = .carried ∧ r.standing.entry = e := by
  obtain ⟨_, hmember, _⟩ := hm
  obtain ⟨hc, hsets, hnodup⟩ := hkeys
  obtain ⟨⟨p, r⟩, hmem, hkey, hstop, hcarried⟩ := hmember e (by simp [hhead])
  cases hlookup : m.dir.lookup e.key with
  | none => exact absurd hkey (Directory.lookup_eq_none_iff.mp hlookup _ hmem (hkey ▸ hsets _ hmem))
  | some found =>
    obtain ⟨hfound, _, hfoundKey⟩ := Directory.lookup_eq_some hlookup
    cases List.inj_on_of_nodup_map hnodup hmem hfound (hkey.trans hfoundKey.symm)
    exact ⟨_, _, rfl, hcarried, congrArg₂ SweepEntry.mk hkey hstop⟩

/-- The member at the head of the sweep list is given up (R122). -/
theorem Part.Books.skipHead (hm : m.Books) (hkeys : m.KeysTrue) {e : SweepEntry} {rest : List SweepEntry}
    (hhead : m.stops.sweep = e :: rest) : (m.skipHead e rest).Books := by
  obtain ⟨p, r, hlookup, hcarried, rfl⟩ := Part.SweepTrue.head ((Part.sweepTrue_iff hkeys).mpr hm.sweeps) hkeys hhead
  obtain ⟨hnone, _⟩ | ⟨q, x, hfound, heq⟩ := skipHead_cases r.standing.entry rest m
  · exact absurd (hnone.symm.trans hlookup) nofun
  · cases hlookup.symm.trans hfound
    obtain ⟨a, b, hstandings, hset⟩ := Part.standings_setReadState
      (m := m.onStops (fun u => { u with sweep := rest })) hkeys.1 (find_of_lookup hkeys.1 hlookup)
    obtain ⟨hsweeps, hstores⟩ := hm
    rw [show m.dir.standings = _ from hstandings] at hsweeps hstores
    have hread : r.standing.readState ≠ .read := ne_of_eq_of_ne hcarried (by decide)
    rw [heq]
    constructor
    · rw [hset, Part.setReadState_stops]
      exact hsweeps.drop hcarried nofun (.of_eq hhead)
    · rw [hset, Part.stubs_setReadState]
      exact hstores.pass hread (by decide)

/-- A member heard for the first time becomes READ with its record, and leaves the sweep list (R54, R121). -/
theorem Part.Books.firstHearing (hm : m.Books) (hkeys : m.KeysTrue) (hfind : Table.find m.dir.ways p = some r)
    (hr : r.readState ≠ .read) (q : Queued) : (m.firstHearing p r q).Books := by
  have hlength : m.stubs.length = m.store.length := List.length_map ..
  obtain ⟨a, b, hstandings, hmodify⟩ := Directory.standings_split hkeys.1 hfind
  obtain ⟨hsweeps, hstores⟩ := hm
  have hnodup := hkeys.nodup_keys
  rw [hstandings] at hsweeps hstores hnodup
  rw [show m.firstHearing p r q = _ from firstHearing_eq hfind q m.intake, Part.tampered, Table.modify_modify,
    Table.modify_modify]
  constructor
  · rw [hmodify]
    dsimp only
    split_ifs with hcarried
    · exact hsweeps.drop hcarried nofun (hsweeps.filter_key hnodup hcarried)
    · exact hsweeps.pass hcarried nofun
  · rw [hmodify, Part.stubs, List.map_append]
    have hheard := hstores.hear hr
    rw [hlength] at hheard
    exact hheard

end Members

/-! Closes -/

/-- These members are UNREAD, each in a way of its own. -/
structure Part.Awaits (m : Part) (l : List (Nat × Member)) : Prop where
  nodup : (l.map Prod.fst).Nodup
  unread : ∀ e ∈ l, Table.find m.dir.ways e.1 = some e.2 ∧ e.2.readState = .unread

theorem Part.unreadOf_perm (m : Part) (stop : Nat) : (m.unreadOf stop).Perm
    (m.dir.ways.filter (fun e => e.2.stop == stop && e.2.readState == .unread)) := by
  refine (inKeyOrder_perm _).trans (.of_eq ?_)
  rw [Directory.ofStop, List.filter_filter]
  simp only [Bool.and_comm]

theorem Part.unreadOf_awaits {m : Part} (hc : Table.Canonical m.dir.ways) (stop : Nat) :
    m.Awaits (m.unreadOf stop) where
  nodup := by
    rw [((m.unreadOf_perm stop).map Prod.fst).nodup_iff]
    exact (hc.imp Nat.ne_of_lt).sublist (List.filter_sublist.map _)
  unread e he := by
    obtain ⟨hmem, _, hunread⟩ := Part.mem_unreadOf.mp he
    exact ⟨hc.find_of_mem hmem, hunread⟩

/-- When the first of them leaves UNREAD, the others are as they were. -/
theorem Part.Awaits.tail {m : Part} {e : Nat × Member} {l : List (Nat × Member)} (h : m.Awaits (e :: l))
    (q : ReadState) : (m.setReadState e.1 q).Awaits l := by
  obtain ⟨hhead, hnodup⟩ := List.nodup_cons.mp h.nodup
  refine ⟨hnodup, fun x hx => ?_⟩
  have hne : x.1 ≠ e.1 := fun heq => hhead (heq ▸ List.mem_map_of_mem hx)
  rw [Part.find_setReadState, if_neg hne]
  exact h.unread x (List.mem_cons_of_mem _ hx)

/-- A member of a close is dealt with: its read state alone may have changed, and the sweep list. -/
structure Deals (g : Closing → Nat × Member → Closing) : Prop where
  members : ∀ c e, ∃ q, (g c e).part.dir = (c.part.setReadState e.1 q).dir
  books : ∀ c e, c.part.Books → Table.Canonical c.part.dir.ways → Table.find c.part.dir.ways e.1 = some e.2 →
    e.2.readState = .unread → (g c e).part.Books

theorem dropMember_deals : Deals dropMember where
  members _ _ := ⟨.missed, rfl⟩
  books _ _ hm hc hfind hr := hm.miss hc hfind hr

theorem carryMember_deals : Deals carryMember where
  members c e := by
    unfold carryMember
    split_ifs
    · exact ⟨.carried, rfl⟩
    · exact ⟨.missed, rfl⟩
  books c e hm hc hfind hr := by
    unfold carryMember
    split_ifs
    · exact hm.carry hc hfind hr
    · exact hm.miss hc hfind hr

theorem Deals.foldl {g : Closing → Nat × Member → Closing} (hg : Deals g) {l : List (Nat × Member)} {c : Closing}
    (hm : c.part.Books) (hc : Table.Canonical c.part.dir.ways) (h : c.part.Awaits l) : (l.foldl g c).part.Books := by
  induction l generalizing c with
  | nil => exact hm
  | cons e rest ih =>
    obtain ⟨hfind, hr⟩ := h.unread e List.mem_cons_self
    obtain ⟨q, hdir⟩ := hg.members c e
    have hrest : (g c e).part.Awaits rest := by
      obtain ⟨hnodup, hunread⟩ := h.tail q
      exact ⟨hnodup, by rwa [hdir]⟩
    refine ih (hg.books c e hm hc hfind hr) ?_ hrest
    rw [hdir]
    exact (keepsPlaces_setReadState ..).canonical hc

theorem closeStop_books {m : Part} (hm : m.Books) (hc : Table.Canonical m.dir.ways) (r : Stop) (drop : Bool) :
    (m.closeStop r drop).part.Books := by
  have hdisposed : (m.disposeMembers r.number drop).part.Books := by
    have hcarry := carryMember_deals.foldl (c := ⟨m, 0, 0⟩) hm hc (Part.unreadOf_awaits hc r.number)
    unfold Part.disposeMembers
    dsimp only
    split_ifs
    · exact dropMember_deals.foldl (c := ⟨m, 0, 0⟩) hm hc (Part.unreadOf_awaits hc r.number)
    · exact hcarry
    · exact (sameBooks_of_sameBlocks (.setShared ..)).books hcarry
  have hshut : SameBooks (m.disposeMembers r.number drop).part
      ((m.disposeMembers r.number drop).part.onStops (Stops.shut r)) := ⟨rfl, Stops.shut_sweep .., rfl⟩
  exact (hshut.trans (sameBooks_foldl reportDeferred_sameBooks ..)).books hdisposed

theorem closeLingering_books {m : Part} (hm : m.Books) (hc : Table.Canonical m.dir.ways) : m.closeLingering.Books := by
  have hkept : m.closeLingering.Books ∧ Table.Canonical m.closeLingering.dir.ways :=
    List.foldlRecOn (motive := fun m : Part => m.Books ∧ Table.Canonical m.dir.ways) _ _ ⟨hm, hc⟩
      fun m ⟨hm, hc⟩ r _ => ⟨closeStop_books hm hc r false, (closeStop_turns hc r false).keepsPlaces.canonical hc⟩
  exact hkept.1

/-- At the route's end no member is CARRIED and the sweep list is empty; READ members keep their records (R12, R127). -/
theorem endRoute_books {m : Part} (hm : m.Books) : m.endRoute.Books := by
  obtain ⟨_, hindex, hread, hown, hlength⟩ := hm
  have hstandings : m.dir.giveUp.standings = m.dir.standings.map
      (fun x => { x with readState := if x.readState = .read then .read else .missed }) := by
    rw [Directory.standings, Directory.giveUp_ways, Table.mapValues, List.map_map, Directory.standings, List.map_map]
    refine List.map_congr_left fun e _ => ?_
    simp only [Function.comp_apply, Member.givenUp_eq]
    rfl
  have hstate : ∀ q : ReadState, (if q = .read then ReadState.read else .missed) = .read ↔ q = .read := by
    intro q
    cases q <;> decide
  have hended : Part.Books { m with intake := m.intake.void, stops := m.stops.endRoute, dir := m.dir.giveUp } := by
    constructor
    · have hnone : ∀ q : ReadState, ((if q = .read then ReadState.read else .missed) == .carried) = false := by
        intro q
        cases q <;> decide
      dsimp only
      rw [hstandings, Sweeps, List.filter_map]
      simp [Function.comp_def, hnone, Stops.endRoute]
    · dsimp only
      rw [hstandings]
      refine ⟨hindex, List.forall_mem_map.mpr fun x hx => (hstate _).trans (hread x hx),
        List.forall_mem_map.mpr hown, hlength.trans ?_⟩
      rw [List.countP_map]
      refine List.countP_congr fun x _ => ?_
      simp only [Function.comp_apply, beq_iff_eq, hstate]
  exact (sameBooks_foldl reportDeferred_sameBooks ..).books hended

/-! Effects -/

theorem Part.books_empty {m : Part} (hways : m.dir.ways = []) (hsweep : m.stops.sweep = []) (hstore : m.store = []) :
    m.Books := by
  have hmembers := Directory.standings_nil hways
  have hstubs : m.stubs = [] := by rw [Part.stubs, hstore]; rfl
  refine ⟨?_, ?_⟩
  · rw [hmembers, hsweep]
    exact .nil
  · rw [hmembers, hstubs]
    exact ⟨by simp, by simp, by simp, rfl⟩

/-- A member is loaded UNREAD and without a record (R9). -/
theorem Part.Books.fill {m : Part} (hm : m.Books) {p : Nat} (hfree : Table.find m.dir.ways p = none) {r : Member}
    (hr : r.readState = .unread) (hrecord : r.record = none) : Part.Books { m with dir := m.dir.fill p r } := by
  have hperm : (m.dir.fill p r).standings.Perm (r.standing :: m.dir.standings) :=
    (Table.put_perm_of_absent hfree r).map (fun e : Nat × Member => e.2.standing)
  obtain ⟨hsweeps, hindex, hread, hown, hlength⟩ := hm
  have hstate : r.standing.readState = .unread := hr
  constructor
  · refine List.Perm.trans hsweeps (List.Perm.map _ ?_)
    simpa [hstate] using (hperm.filter (fun x => x.readState == .carried)).symm
  · refine ⟨hindex, fun y hy => ?_, fun y hy => ?_, hlength.trans ?_⟩
    · obtain rfl | hy := List.mem_cons.mp (hperm.mem_iff.mp hy)
      · simp [Member.standing, hr, hrecord]
      · exact hread y hy
    · obtain rfl | hy := List.mem_cons.mp (hperm.mem_iff.mp hy)
      · simp [Member.standing, hrecord]
      · exact hown y hy
    · simp [hperm.countP_eq, hstate]

theorem hear_books {m : Part} (hm : m.Books) (hkeys : m.KeysTrue) (q : Queued) : (m.hear q).Books := by
  unfold Part.hear
  split
  · obtain ⟨_, _, h⟩ := m.hearStranger_cases q m.stops.lead
    rw [h]
    exact ⟨hm.sweeps, hm.stores⟩
  · next p r hlookup =>
    split_ifs with hread
    · split
      · exact hm
      · split
        · exact hm
        · refine ((tamperOutcome_sameBooks ..).trans (store_sameBooks (stubs_modify ?_ ..))).books hm
          exact fun _ => rfl
    · exact hm.firstHearing hkeys (find_of_lookup hkeys.1 hlookup) hread q

theorem Routine.books {m n : Part} (h : Routine m n) (hm : m.Books) (hc : Table.Canonical m.dir.ways) : n.Books := by
  cases h
  case none => exact hm
  case openStop | acknowledge | setPass | queueTelegram | clearVolatile => exact ⟨hm.sweeps, hm.stores⟩
  case startLinger r _ _ _ _ _ _ =>
    have hlinger : SameBooks m (m.onStops (Stops.startLinger r)) := ⟨rfl, Stops.startLinger_sweep .., rfl⟩
    exact hlinger.books hm
  case closeStop | expireLinger => exact closeStop_books hm hc ..
  case clearTamper => exact (onMember_sameBooks (Member.cleared_tampersAlone _) ..).books hm
  case nextBatch => exact (formBatch_sameBooks ..).books hm
  case returnBatch => exact (returnBatch_sameBooks ..).books hm
  case returnBatches => exact (returnBatches_sameBooks m).books hm
  case warmStart =>
    have hvolatile : m.clearVolatile.Books := ⟨hm.sweeps, hm.stores⟩
    exact (returnBatches_sameBooks _).books (closeLingering_books hvolatile hc)

/-- Every effect keeps the sweep list and the store those of the members. -/
theorem Effect.books {m n : Part} (h : Effect m n) (hm : m.Books) (hkeys : m.KeysTrue) : n.Books := by
  cases h
  case routine h => exact h.books hm hkeys.1
  case beginLoad | loadStop | loadProfile | loadClass | finishLoad | startRoute | endSecond =>
    exact ⟨hm.sweeps, hm.stores⟩
  case loadMember hfree => exact hm.fill (Directory.freePosition_set hfree).2 rfl rfl
  case clearRoute | coldStart => exact Part.books_empty rfl rfl rfl
  case beginUpload =>
    have hformed := (formOrder_sameBooks m).books hm
    exact ⟨hformed.sweeps, hformed.stores⟩
  case endRoute =>
    have hended := endRoute_books hm
    exact ⟨hended.sweeps, hended.stores⟩
  case skipSweep hhead => exact hm.skipHead hkeys hhead
  case confirmBatch b _ _ =>
    exact (((setItems_sameBooks ..).trans (retire_sameBooks ..)).trans (finishUpload_sameBooks _)).books hm
  case completeTelegram e _ =>
    have hfree : Part.Books { m with intake := { m.intake with eval := none } } := ⟨hm.sweeps, hm.stores⟩
    have hheard := hear_books hfree hkeys e.queued
    unfold Part.completeTelegram
    dsimp only
    split_ifs
    · exact ⟨hm.sweeps, hm.stores⟩
    · exact ⟨hheard.sweeps, hheard.stores⟩

/-- Settles O9: every effect keeps the sweep list and the store those of the members, and the keys in their sets. -/
theorem sweepListAndStoreStayTrue : Obligations.SweepListAndStoreStayTrue := by
  intro s t hkeys hsweep hstore h
  obtain ⟨hkeys, hbooks⟩ : t.part.KeysTrue ∧ t.part.Books :=
    step_keeps (P := fun m => m.KeysTrue ∧ m.Books)
      (fun _ _ hsame hm => ⟨keysTrue_of_sameBlocks hsame hm.1, (sameBooks_of_sameBlocks hsame).books hm.2⟩)
      (fun _ _ heffect hm => ⟨heffect.keysTrue hm.1, heffect.books hm.2 hm.1⟩) h
      ⟨hkeys, (Part.books_iff hkeys).mpr ⟨hsweep, hstore⟩⟩
  exact (Part.books_iff hkeys).mp hbooks

end Sys2Proof.Machine
end

section
/-! SUPPORT. The requests of stops and the sweep list, and a linger timer's expiry (R111 to R113, R116 to R118, R122). -/

namespace Sys2Proof.Machine

/-- Settles O10: every effect keeps stops, slots, timers and opening order in agreement. -/
theorem slotsStayTrue : Obligations.SlotsStayTrue := fun _ _ hs h =>
  Part.slotsTrue_iff.mpr (step_agree (Part.slotsTrue_iff.mp hs) h)

theorem Part.held_eq_false {m : Part} (h : m.tamper.stalled = false ∨ m.tamper.pass = true) : m.held = false := by
  obtain h | h := h <;> simp [Part.held, h]

theorem stopOf_length {body : List Byte} {n : Nat} (h : stopOf body = some n) : body.length + 2 ≤ 64 := by
  unfold stopOf at h
  split_ifs at h with hlength
  omega

theorem closeStopOf_length {body : List Byte} {e : Nat × Option CloseMode} (h : closeStopOf body = some e) :
    body.length + 2 ≤ 64 := by
  unfold closeStopOf at h
  split_ifs at h with hlength
  omega

/-! OPEN STOP -/

/-- The free slot is the lowest that no stop holds (R112). -/
theorem Stops.freeSlot_eq_some {u : Stops} {i : Fin 4} (hfree : u.slots[i].stop = none)
    (hlower : ∀ j : Fin 4, j < i → u.slots[j].stop ≠ none) : u.freeSlot = some i := by
  have hfirst : (List.finRange 4).find? (fun i => u.slots[i].stop.isNone) = some i := by
    refine List.find?_eq_some_iff_getElem.mpr ⟨Option.isNone_iff_eq_none.mpr hfree, i, by simp, by simp, fun j hj => ?_⟩
    simpa [Option.isSome_iff_ne_none] using hlower ⟨j, hj.trans i.isLt⟩ hj
  exact hfirst

theorem Stops.freeSlot_eq_none {u : Stops} (h : ∀ i : Fin 4, u.slots[i].stop ≠ none) : u.freeSlot = none :=
  List.find?_eq_none.mpr fun i _ => by simpa using h i

section OpenStop

variable {body : List Byte} {n : Nat} {m : Part} (hstate : m.route.state = .running) (hheld : m.held = false)
  (hbody : stopOf body = some n)

include hstate hheld hbody

theorem serveOpenStop_notFound (h : m.stop n = none) (tag : Byte) :
    serveOpenStop tag body m = m.answer .cab tag .notFound .none := by
  simp only [serveOpenStop, hstate, hheld, hbody, h]
  rfl

variable {r : Stop} (hstop : m.stop n = some r)

include hstop

theorem serveOpenStop_wrongState (h : r.state ≠ .pending) (tag : Byte) :
    serveOpenStop tag body m = m.answer .cab tag .wrongState .none := by
  simp only [serveOpenStop, hstate, hheld, hbody, hstop, ne_eq, h]
  rfl

theorem serveOpenStop_noSlot (hpending : r.state = .pending) (h : m.stops.freeSlot = none) (tag : Byte) :
    serveOpenStop tag body m = m.answer .cab tag .noSlot .none := by
  simp only [serveOpenStop, hstate, hheld, hbody, hstop, hpending, h]
  rfl

theorem serveOpenStop_opened (hpending : r.state = .pending) {i : Fin 4} (h : m.stops.freeSlot = some i) (tag : Byte) :
    serveOpenStop tag body m =
      (m.onStops (Stops.openIn i m.route.clock n)).answer .cab tag .ok (.opened i m.route.clock) := by
  simp only [serveOpenStop, hstate, hheld, hbody, hstop, hpending, h]
  rfl

end OpenStop

/-- Settles O48: the answers are the cases of the stop's record, of its state and of the free slot. -/
theorem openStopTakesTheLowestSlot : Obligations.OpenStopTakesTheLowestSlot := by
  intro tag body n s hready hstate hfree hbody
  have hheld := Part.held_eq_false hfree
  have becomes : ∀ {m : Part}, serveOpenStop tag body s.part = m → Becomes (.openStop tag body) s m :=
    request_becomes (p := .cab) (r := .openStop) (by decide) hready (stopOf_length hbody)
  refine ⟨fun hnone => becomes (serveOpenStop_notFound hstate hheld hbody hnone tag), fun r hr =>
    ⟨fun hclosed => becomes (serveOpenStop_wrongState hstate hheld hbody hr hclosed tag), fun hpending =>
      ⟨fun hfull => becomes ?_, fun i hi hlower => becomes ?_⟩⟩⟩
  · exact serveOpenStop_noSlot hstate hheld hbody hr hpending (Stops.freeSlot_eq_none hfull) tag
  · exact serveOpenStop_opened hstate hheld hbody hr hpending (Stops.freeSlot_eq_some hi hlower) tag

/-! CLOSE STOP and LINGER_EXPIRY -/

/-- An OPEN stop with a linger time lingers where the mode asked for is LINGER (R113). -/
theorem effectiveMode_linger {r : Stop} {o : Option CloseMode} (hopened : r.state = .opened)
    (hmode : o.getD r.mode = .linger) (htime : r.lingerTime ≠ 0) : effectiveMode r o = .linger := by
  simp [effectiveMode, hopened, hmode, htime]

/-- In every other case a stop closes, as DROP or as CARRY (R113). -/
theorem effectiveMode_close {r : Stop} {o : Option CloseMode} {drop : Bool}
    (h : (r.state = .opened ∧ ((o.getD r.mode = .drop ∧ drop = true) ∨ (o.getD r.mode = .carry ∧ drop = false) ∨
        (o.getD r.mode = .linger ∧ r.lingerTime = 0 ∧ drop = false))) ∨
      (r.state = .lingering ∧ ((o = some .drop ∧ drop = true) ∨ (o ≠ some .drop ∧ drop = false)))) :
    effectiveMode r o = if drop then .drop else .carry := by
  obtain ⟨hopened, ⟨hmode, rfl⟩ | ⟨hmode, rfl⟩ | ⟨hmode, htime, rfl⟩⟩ | ⟨hlingering, ⟨rfl, rfl⟩ | ⟨hmode, rfl⟩⟩ := h
  · simp [effectiveMode, hopened, hmode]
  · simp [effectiveMode, hopened, hmode]
  · simp [effectiveMode, hopened, hmode, htime]
  · simp [effectiveMode, hlingering]
  · simp [effectiveMode, hlingering, hmode]

theorem takeClose_closed (tag : Byte) (r : Stop) (drop : Bool) (m : Part) :
    m.takeClose tag r (if drop then .drop else .carry) = (m.closeStop r drop).part.answer .cab tag .ok
      (.closed .closed (m.closeStop r drop).carried (m.closeStop r drop).missed
        (m.closeStop r drop).part.stops.sweep.length) := by
  cases drop <;> rfl

theorem Stops.startLinger_eq {r : Stop} {i : Fin 4} (h : r.slot = some i) (u : Stops) : u.startLinger r = { u with
    records := Table.modify r.number (fun q => { q with state := .lingering }) u.records
    slots := u.slots.set i.val ⟨some r.number, some ⟨r.lingerTime, false⟩⟩ i.isLt
    order := u.order.filter (fun x => x != r.number) } := by
  unfold Stops.startLinger
  rw [h]
  rfl

/-- A lingering stop keeps its slot, where its timer starts (R116). -/
theorem takeClose_linger (tag : Byte) {r : Stop} {i : Fin 4} (h : r.slot = some i) (m : Part) :
    m.takeClose tag r .linger = Part.answer .cab tag .ok (.closed .lingering 0 0 m.stops.sweep.length) { m with
      stops := { m.stops with
        records := Table.modify r.number (fun q => { q with state := .lingering }) m.stops.records
        slots := m.stops.slots.set i.val ⟨some r.number, some ⟨r.lingerTime, false⟩⟩ i.isLt
        order := m.stops.order.filter (fun x => x != r.number) } } := by
  rw [Part.takeClose, Part.onStops, Stops.startLinger_eq h]

section CloseStop

variable {body : List Byte} {n : Nat} {o : Option CloseMode} {m : Part} (hstate : m.route.state = .running)
  (hheld : m.held = false) (hbody : closeStopOf body = some (n, o))

include hstate hheld hbody

theorem serveCloseStop_notFound (h : m.stop n = none) (tag : Byte) :
    serveCloseStop tag body m = m.answer .cab tag .notFound .none := by
  simp only [serveCloseStop, hstate, hheld, hbody, h]
  rfl

variable {r : Stop} (hstop : m.stop n = some r)

include hstop

theorem serveCloseStop_wrongState (h : r.state = .pending ∨ r.state = .closed) (tag : Byte) :
    serveCloseStop tag body m = m.answer .cab tag .wrongState .none := by
  simp only [serveCloseStop, hstate, hheld, hbody, hstop, h]
  rfl

theorem serveCloseStop_taken (h : r.state = .opened ∨ r.state = .lingering) (tag : Byte) :
    serveCloseStop tag body m = m.takeClose tag r (effectiveMode r o) := by
  have hopen : ¬ (r.state = .pending ∨ r.state = .closed) := by
    obtain h | h := h <;> simp [h]
  simp only [serveCloseStop, hstate, hheld, hbody, hstop, if_neg hopen]
  rfl

end CloseStop

/-- A timer that is due closes its stop as CARRY (R118). -/
theorem expireLinger_due {m : Part} {i : Fin 4} {n : Nat} {r : Stop} {t : Timer}
    (hslot : m.stops.slots[i] = ⟨some n, some t⟩) (hdue : t.due = true) (hstop : m.stop n = some r) :
    m.expireLinger i = (m.closeStop r false).part.setLocal .cab evLingerEnded := by
  simp only [Part.expireLinger, hslot, Option.bind_some, hstop, hdue, if_true]

theorem expireLinger_not_due {m : Part} {i : Fin 4}
    (h : ∀ t, m.stops.slots[i].timer = some t → t.due = false) : m.expireLinger i = m := by
  unfold Part.expireLinger
  split
  · next htimer => simp [h _ htimer]
  · rfl

/-- Settles O49: CLOSE STOP's answers are the cases of the stop's record and of its effective mode, and an expiry's those of the timer. -/
theorem closeStopLingersOrCloses : Obligations.CloseStopLingersOrCloses := by
  refine ⟨fun tag body n o s hready hstate hfree hbody => ?_, fun i s halive => ⟨fun n r t hslot hdue hstop => ?_,
    fun h => ?_⟩⟩
  · have hheld := Part.held_eq_false hfree
    have becomes : ∀ {m : Part}, serveCloseStop tag body s.part = m → Becomes (.closeStop tag body) s m :=
      request_becomes (p := .cab) (r := .closeStop) (by decide) hready (closeStopOf_length hbody)
    refine ⟨fun hnone => becomes (serveCloseStop_notFound hstate hheld hbody hnone tag), ?_⟩
    rintro r hr rfl
    refine ⟨fun hclosed => becomes (serveCloseStop_wrongState hstate hheld hbody hr hclosed tag),
      fun hopened hmode htime i hi => becomes ?_, fun drop hcase => becomes ?_⟩
    · rw [serveCloseStop_taken hstate hheld hbody hr (.inl hopened), effectiveMode_linger hopened hmode htime]
      exact takeClose_linger tag hi s.part
    · have hopen : r.state = .opened ∨ r.state = .lingering := hcase.imp And.left And.left
      rw [serveCloseStop_taken hstate hheld hbody hr hopen, effectiveMode_close hcase]
      exact takeClose_closed tag r drop s.part
  · exact (act_alive halive (Part.expireLinger i)).trans (by rw [expireLinger_due hslot hdue hstop])
  · exact (act_alive halive (Part.expireLinger i)).trans (by rw [expireLinger_not_due h])

/-! SKIP SWEEP -/

section SkipSweep

variable {m : Part} (hstate : m.route.state = .running) (hheld : m.held = false)

include hstate hheld

theorem serveSkipSweep_empty (h : m.stops.sweep = []) (tag : Byte) :
    serveSkipSweep tag [] m = m.answer .cab tag .empty .none := by
  simp only [serveSkipSweep, hstate, hheld, h]
  rfl

theorem serveSkipSweep_head {e : SweepEntry} {rest : List SweepEntry} (h : m.stops.sweep = e :: rest) (tag : Byte) :
    serveSkipSweep tag [] m = (m.skipHead e rest).answer .cab tag .ok (.skipped e rest.length) := by
  simp only [serveSkipSweep, hstate, hheld, h]
  rfl

end SkipSweep

/-- A member found is written back MISSED, and the counts follow (R12, R17). -/
theorem skipHead_eq {m : Part} (hc : Table.Canonical m.dir.ways) {e : SweepEntry} {p : Nat} {r : Member}
    (h : m.dir.lookup e.key = some (p, r)) (rest : List SweepEntry) :
    m.skipHead e rest = { m with
      stops := { m.stops with sweep := rest }
      dir :=
        { ways := Table.put p { r with readState := .missed } m.dir.ways
          counts := (m.dir.counts.lower r.readState).raise .missed } } := by
  have hfind := find_of_lookup hc h
  unfold Part.skipHead
  rw [h]
  dsimp only
  rw [setReadState_of_find (m := m.onStops _) hfind, Part.onStops_dir,
    Table.modify_eq_put hc hfind (fun e => { e with readState := .missed })]
  rfl

/-- Settles O51: the answers are the cases of the sweep list. -/
theorem skipSweepGivesUpTheHead : Obligations.SkipSweepGivesUpTheHead := by
  intro tag s hready hstate hfree
  have hheld := Part.held_eq_false hfree
  have becomes : ∀ {m : Part}, serveSkipSweep tag [] s.part = m → Becomes (.skipSweep tag []) s m :=
    request_becomes (p := .cab) (r := .skipSweep) (by decide) hready (by decide)
  refine ⟨fun hempty => becomes (serveSkipSweep_empty hstate hheld hempty tag), fun e rest p r hhead hc hlookup =>
    becomes ?_⟩
  rw [serveSkipSweep_head hstate hheld hhead, skipHead_eq hc hlookup]

end Sys2Proof.Machine
end

section
/-! SUPPORT. The reads of stops, the sweep list, alerts, members and strangers (R16, R101, R123, R125, R139). -/

namespace Sys2Proof.Machine

section Reads

variable {body : List Byte} (tag : Byte) (m : Part)

theorem serveReadStop_notFound {n : Nat} (hbody : stopOf body = some n) (h : m.stop n = none) :
    serveReadStop tag body m = m.answer .cab tag .notFound .none := by
  simp only [serveReadStop, hbody, h]
  rfl

theorem serveReadStop_found {n : Nat} {r : Stop} (hbody : stopOf body = some n) (h : m.stop n = some r) :
    serveReadStop tag body m =
      m.answer .cab tag .ok (.stop r (m.stops.remaining r) (m.stops.lead == some r.number)) := by
  simp only [serveReadStop, hbody, h]

theorem serveReadAlert_taken {place : Nat} (h : place ≤ 31) : serveReadAlert tag (be8 place) m =
    m.answer .cab tag .ok (.alerts m.tamper.alerts.length m.tamper.stalled m.tamper.pass
      ((m.tamper.alerts.drop place).take 8)) := by
  simp only [serveReadAlert, (startPlaceOf_iff (be8 place) place).mpr ⟨h, rfl⟩]
  rfl

theorem serveReadMember_notFound (p : HostPort) {k : Key} (hbody : readMemberOf body = some k)
    (h : m.dir.lookup k = none) : serveReadMember p tag body m = m.answer p tag .notFound .none := by
  simp only [serveReadMember, hbody, h]
  rfl

theorem serveReadMember_found (p : HostPort) {k : Key} {position : Nat} {r : Member} (hbody : readMemberOf body = some k)
    (h : m.dir.lookup k = some (position, r)) :
    serveReadMember p tag body m = m.answer p tag .ok (.member position r) := by
  simp only [serveReadMember, hbody, h]

theorem serveReadStrangers_taken (p : HostPort) {start : Nat} (h : start ≤ 255) :
    serveReadStrangers p tag (be16 start) m = m.answer p tag .ok
      (.strangers m.strangers.count (m.strangers.read start) (nextPosition (m.strangers.read start))) := by
  simp only [serveReadStrangers, (startPositionOf_iff (be16 start) start).mpr ⟨h, rfl⟩]

end Reads

theorem readMemberOf_length {body : List Byte} {k : Key} (h : readMemberOf body = some k) : body.length + 2 ≤ 64 := by
  unfold readMemberOf at h
  split_ifs at h with hlength
  omega

/-- Fewer than 8 entries given: the walk has reached the end of the table (R139). -/
theorem nextPosition_of_few {given : List StrangerReport} (h : given.length < 8) : nextPosition given = 256 := if_pos h

/-- 8 entries given: the walk goes on above the last of them (R139). -/
theorem nextPosition_of_full {given : List StrangerReport} (h : given.length = 8) {e : StrangerReport}
    (hlast : given.getLast? = some e) : nextPosition given = e.position + 1 := by
  simp [nextPosition, Config.readEntries, h, hlast]

/-- Settles O52: a read's answers are the cases of what it finds. -/
theorem readsChangeNothing : Obligations.ReadsChangeNothing := by
  intro tag body s
  refine ⟨fun hready => ⟨fun n hbody => ?_, ?_, fun place hplace => ?_⟩, fun p hready => ⟨fun k hbody => ?_,
    fun start hstart => ?_⟩⟩
  · have becomes : ∀ {m : Part}, serveReadStop tag body s.part = m → Becomes (.readStop tag body) s m :=
      request_becomes (p := .cab) (r := .readStop) (by decide) hready (stopOf_length hbody)
    exact ⟨fun hnone => becomes (serveReadStop_notFound tag _ hbody hnone), fun r hr =>
      becomes (serveReadStop_found tag _ hbody hr)⟩
  · exact request_becomes (p := .cab) (r := .readSweep) (by decide) hready (by decide) rfl
  · exact request_becomes (p := .cab) (r := .readAlert) (by decide) hready (by simp [be8])
      (serveReadAlert_taken tag _ hplace)
  · have becomes : ∀ {m : Part}, serveReadMember p tag body s.part = m → Becomes (.readMember p tag body) s m :=
      request_becomes (r := .readMember) (by cases p <;> decide) hready (readMemberOf_length hbody)
    exact ⟨fun hnone => becomes (serveReadMember_notFound tag _ p hbody hnone), fun position r hfound =>
      becomes (serveReadMember_found tag _ p hbody hfound)⟩
  · refine ⟨nextPosition (s.part.strangers.read start), fun hfew => nextPosition_of_few ?_,
      fun e hfull hlast => nextPosition_of_full (e := ⟨e.1, s.part.strangers.tree e.2.key, e.2⟩) ?_ ?_, ?_⟩
    · exact (List.length_map ..).trans_lt hfew
    · exact (List.length_map ..).trans hfull
    · exact List.getLast?_map.trans (congrArg (Option.map _) hlast)
    · exact request_becomes (r := .readStrangers) (by cases p <;> decide) hready (by simp [be16])
        (serveReadStrangers_taken tag _ p hstart)

end Sys2Proof.Machine
end

section
/-! SUPPORT. The close of a stop (R94, R114, R115): its UNREAD members carried while the sweep list has room, and given up after
that. -/

namespace Sys2Proof.Machine

/-! Tables changed entry by entry -/

/-- The table with every entry changed, as its key says. -/
def Table.mapEntries {α : Type} (g : Nat → α → α) (t : Table α) : Table α := List.map (fun e => (e.1, g e.1 e.2)) t

theorem Table.find_mapEntries {α : Type} (g : Nat → α → α) (t : Table α) (k : Nat) :
    Table.find (Table.mapEntries g t) k = (Table.find t k).map (g k) := by
  induction t with
  | nil => rfl
  | cons e rest ih =>
    obtain ⟨j, w⟩ := e
    have hcons : Table.mapEntries g ((j, w) :: rest) = (j, g j w) :: Table.mapEntries g rest := rfl
    rw [hcons, Table.find_cons, Table.find_cons, ih]
    split_ifs with hj
    · rw [hj]
      rfl
    · rfl

theorem Table.modify_mapEntries {α : Type} (k : Nat) (f : α → α) (g : Nat → α → α) (t : Table α) :
    Table.modify k f (Table.mapEntries g t) = Table.mapEntries (fun j w => if j = k then f (g j w) else g j w) t := by
  unfold Table.modify Table.mapEntries
  rw [List.map_map]
  refine List.map_congr_left fun e _ => ?_
  simp only [Function.comp_apply]
  split_ifs <;> rfl

theorem Table.Canonical.mapEntries {α : Type} {t : Table α} (h : Table.Canonical t) (g : Nat → α → α) :
    Table.Canonical (Table.mapEntries g t) := by
  have hkeys : (Table.mapEntries g t).map Prod.fst = t.map Prod.fst := List.map_map ..
  rwa [Table.Canonical, hkeys]

/-! Members dealt with -/

/-- The read state at a position once these members have been carried and these given up. -/
def closeState (carried missed : List (Nat × Member)) (p : Nat) (q : ReadState) : ReadState :=
  if p ∈ carried.map Prod.fst then .carried else if p ∈ missed.map Prod.fst then .missed else q

theorem closeState_of_notMem {carried missed : List (Nat × Member)} {p : Nat}
    (h : p ∉ (carried ++ missed).map Prod.fst) (q : ReadState) : closeState carried missed p q = q := by
  rw [List.map_append, List.mem_append, not_or] at h
  rw [closeState, if_neg h.1, if_neg h.2]

theorem closeState_carry (carried : List (Nat × Member)) (e : Nat × Member) (p : Nat) (q : ReadState) :
    closeState (carried ++ [e]) [] p q = if p = e.1 then .carried else closeState carried [] p q := by
  by_cases hp : p = e.1
  · simp [closeState, hp]
  · simp only [closeState, hp, if_false, List.map_append, List.mem_append, List.map_singleton, List.mem_singleton, or_false]

theorem closeState_miss {carried : List (Nat × Member)} {e : Nat × Member} (he : e.1 ∉ carried.map Prod.fst)
    (missed : List (Nat × Member)) (p : Nat) (q : ReadState) :
    closeState carried (missed ++ [e]) p q = if p = e.1 then .missed else closeState carried missed p q := by
  by_cases hp : p = e.1
  · subst hp
    simp only [closeState, he, if_false, if_true, List.map_append, List.mem_append, List.map_singleton,
      List.mem_singleton, or_true]
  · simp only [closeState, hp, if_false, List.map_append, List.mem_append, List.map_singleton, List.mem_singleton, or_false]

/-- A member at a position once these members have been carried and these given up. -/
def Member.dealt (carried missed : List (Nat × Member)) (p : Nat) (r : Member) : Member :=
  { r with readState := closeState carried missed p r.readState }

/-- The directory once these UNREAD members have been carried and these given up (R12, R17). -/
def Directory.dealt (carried missed : List (Nat × Member)) (d : Directory) : Directory where
  ways := Table.mapEntries (Member.dealt carried missed) d.ways
  counts := { d.counts with
    unread := d.counts.unread - (carried.length + missed.length)
    carried := d.counts.carried + carried.length
    missed := d.counts.missed + missed.length }

/-- The part once these UNREAD members have been carried and these given up (R115). -/
def Part.dealt (carried missed : List (Nat × Member)) (m : Part) : Part :=
  { m with
    dir := m.dir.dealt carried missed
    stops := { m.stops with sweep := m.stops.sweep ++ carried.map (fun e => ⟨e.2.key, e.2.stop⟩) } }

theorem Part.dealt_ways (carried missed : List (Nat × Member)) (m : Part) :
    (m.dealt carried missed).dir.ways = Table.mapEntries (Member.dealt carried missed) m.dir.ways := rfl

theorem Part.dealt_nil (m : Part) : m.dealt [] [] = m := by
  have hways : Table.mapEntries (Member.dealt [] []) m.dir.ways = m.dir.ways := List.map_id m.dir.ways
  simp [Part.dealt, Directory.dealt, hways]

section Dealt

variable {m : Part} {carried missed l : List (Nat × Member)} {e : Nat × Member}

/-- A member not yet dealt with is UNREAD still. -/
theorem Part.find_dealt (hfind : Table.find m.dir.ways e.1 = some e.2)
    (he : e.1 ∉ (carried ++ missed).map Prod.fst) : Table.find (m.dealt carried missed).dir.ways e.1 = some e.2 := by
  rw [Part.dealt_ways, Table.find_mapEntries, hfind, Option.map_some, Member.dealt, closeState_of_notMem he]

theorem Part.dealt_carry (hfind : Table.find m.dir.ways e.1 = some e.2) (hr : e.2.readState = .unread)
    (he : e.1 ∉ carried.map Prod.fst) :
    ((m.dealt carried []).setReadState e.1 .carried).onStops
      (fun u => { u with sweep := u.sweep ++ [⟨e.2.key, e.2.stop⟩] }) = m.dealt (carried ++ [e]) [] := by
  rw [setReadState_of_find (Part.find_dealt hfind (by simpa using he)), hr]
  have hways : Table.modify e.1 (fun x => { x with readState := .carried }) (m.dealt carried []).dir.ways =
      (m.dealt (carried ++ [e]) []).dir.ways := by
    rw [Part.dealt_ways, Part.dealt_ways, Table.modify_mapEntries]
    congr 1
    funext p x
    rw [Member.dealt, Member.dealt, closeState_carry]
    split_ifs <;> rfl
  have hcounts : (((m.dealt carried []).dir.counts.lower .unread).raise .carried) =
      (m.dealt (carried ++ [e]) []).dir.counts := by
    simp [Part.dealt, Directory.dealt, DirCounts.lower, DirCounts.raise, Nat.sub_sub, Nat.add_assoc]
  rw [hways, hcounts]
  simp [Part.dealt, Part.onStops]

theorem Part.dealt_miss (hfind : Table.find m.dir.ways e.1 = some e.2) (hr : e.2.readState = .unread)
    (he : e.1 ∉ (carried ++ missed).map Prod.fst) :
    (m.dealt carried missed).setReadState e.1 .missed = m.dealt carried (missed ++ [e]) := by
  have hcarried : e.1 ∉ carried.map Prod.fst := fun h => he (by simp [List.map_append, h])
  rw [setReadState_of_find (Part.find_dealt hfind he), hr]
  have hways : Table.modify e.1 (fun x => { x with readState := .missed }) (m.dealt carried missed).dir.ways =
      (m.dealt carried (missed ++ [e])).dir.ways := by
    rw [Part.dealt_ways, Part.dealt_ways, Table.modify_mapEntries]
    congr 1
    funext p x
    rw [Member.dealt, Member.dealt, closeState_miss hcarried]
    split_ifs <;> rfl
  have hcounts : (((m.dealt carried missed).dir.counts.lower .unread).raise .missed) =
      (m.dealt carried (missed ++ [e])).dir.counts := by
    simp [Part.dealt, Directory.dealt, DirCounts.lower, DirCounts.raise, Nat.sub_sub, Nat.add_assoc]
  rw [hways, hcounts]
  simp [Part.dealt]

/-- A member that comes after others of its list stands in a way of its own. -/
theorem Part.Awaits.notMem (h : m.Awaits (carried ++ e :: l)) : e.1 ∉ carried.map Prod.fst := by
  have hnodup := h.nodup
  rw [List.map_append, List.map_cons, List.nodup_middle, List.nodup_cons, List.mem_append, not_or] at hnodup
  exact hnodup.1.1

theorem Part.Awaits.sublist {k : List (Nat × Member)} (h : m.Awaits l) (hk : k.Sublist l) : m.Awaits k :=
  ⟨h.nodup.sublist (hk.map _), fun e he => h.unread e (hk.subset he)⟩

theorem Part.Awaits.middle (h : m.Awaits (carried ++ e :: l)) :
    Table.find m.dir.ways e.1 = some e.2 ∧ e.2.readState = .unread := h.unread e (by simp)

/-- A close under way, these members carried and these given up. -/
def Part.closing (m : Part) (carried missed : List (Nat × Member)) : Closing :=
  ⟨m.dealt carried missed, carried.length, missed.length⟩

theorem dropMember_closing (h : m.Awaits ((carried ++ missed) ++ e :: l)) :
    dropMember (m.closing carried missed) e = m.closing carried (missed ++ [e]) := by
  obtain ⟨hfind, hr⟩ := h.middle
  rw [dropMember, Part.closing, Part.dealt_miss hfind hr h.notMem]
  simp [Part.closing]

theorem foldl_dropMember (h : m.Awaits ((carried ++ missed) ++ l)) :
    l.foldl dropMember (m.closing carried missed) = m.closing carried (missed ++ l) := by
  induction l generalizing missed with
  | nil => rw [List.append_nil, List.foldl_nil]
  | cons e rest ih =>
    rw [List.foldl_cons, dropMember_closing h, ih (by simpa using h), List.append_assoc, List.singleton_append]

/-- While the sweep list has room, members are carried (R115). -/
theorem foldl_carryMember_room (h : m.Awaits (carried ++ l)) (hroom : m.stops.sweep.length + (carried ++ l).length ≤ 1024) :
    l.foldl carryMember (m.closing carried []) = m.closing (carried ++ l) [] := by
  induction l generalizing carried with
  | nil => rw [List.append_nil, List.foldl_nil]
  | cons e rest ih =>
    have hcarry : carryMember (m.closing carried []) e = m.closing (carried ++ [e]) [] := by
      obtain ⟨hfind, hr⟩ := h.middle
      have hlength : (m.closing carried []).part.stops.sweep.length < Config.sweepPlaces := by
        simp only [Part.closing, Part.dealt, List.length_append, List.length_map, List.length_cons,
          Config.sweepPlaces] at hroom ⊢
        omega
      rw [carryMember, if_pos hlength, Part.closing, Part.dealt_carry hfind hr h.notMem]
      simp [Part.closing]
    rw [List.foldl_cons, hcarry, ih (by simpa using h) (by simpa using hroom), List.append_assoc, List.singleton_append]

/-- Once the sweep list is full, members are given up as a DROP gives them up (R115). -/
theorem foldl_carryMember_full {c : Closing} (hfull : ¬ c.part.stops.sweep.length < 1024) :
    l.foldl carryMember c = l.foldl dropMember c := by
  induction l generalizing c with
  | nil => rfl
  | cons e rest ih =>
    have hdrop : carryMember c e = dropMember c e := if_neg hfull
    rw [List.foldl_cons, List.foldl_cons, hdrop]
    exact ih (by rwa [dropMember, Part.setReadState_stops])

end Dealt

/-- The places that a close finds for members in the sweep list: none in a DROP (R114, R115). -/
def Part.closeRoom (m : Part) (drop : Bool) : Nat := if drop then 0 else 1024 - m.stops.sweep.length

/-- The members of a close: the first of them, in key order, are carried while the sweep list has room, and the rest are given
up. -/
theorem disposeMembers_eq {m : Part} (hc : Table.Canonical m.dir.ways) (hsweep : m.stops.sweep.length ≤ 1024) (stop : Nat)
    (drop : Bool) : m.disposeMembers stop drop =
      { part := Part.setShared
          (if drop = false ∧ m.closeRoom drop < (m.unreadOf stop).length then evSweepOverflow else 0)
          (m.dealt ((m.unreadOf stop).take (m.closeRoom drop)) ((m.unreadOf stop).drop (m.closeRoom drop)))
        carried := min (m.closeRoom drop) (m.unreadOf stop).length
        missed := (m.unreadOf stop).length - m.closeRoom drop } := by
  have hawaits := Part.unreadOf_awaits hc stop
  have hstart : (⟨m, 0, 0⟩ : Closing) = m.closing [] [] := by rw [Part.closing, Part.dealt_nil]; rfl
  unfold Part.disposeMembers
  generalize m.unreadOf stop = l at hawaits ⊢
  rw [hstart]
  cases drop with
  | true =>
    simp only [if_true, foldl_dropMember (carried := []) (missed := []) hawaits]
    simp [Part.closeRoom, Part.closing, Part.setShared]
  | false =>
    have hroom : m.closeRoom false = 1024 - m.stops.sweep.length := rfl
    have hlength : (l.take (m.closeRoom false)).length = min (m.closeRoom false) l.length := List.length_take
    have hcarried : (l.take (m.closeRoom false)).foldl carryMember (m.closing [] []) =
        m.closing (l.take (m.closeRoom false)) [] := by
      refine foldl_carryMember_room (carried := []) (hawaits.sublist (List.take_sublist ..)) ?_
      rw [List.nil_append]
      omega
    have hmissed : (l.drop (m.closeRoom false)).foldl carryMember (m.closing (l.take (m.closeRoom false)) []) =
        m.closing (l.take (m.closeRoom false)) (l.drop (m.closeRoom false)) := by
      by_cases hfull : m.closeRoom false < l.length
      · rw [foldl_carryMember_full, foldl_dropMember]
        · rfl
        · rwa [List.append_nil, List.take_append_drop]
        · simp only [Part.closing, Part.dealt, List.length_append, List.length_map]
          omega
      · rw [List.drop_eq_nil_of_le (Nat.not_lt.mp hfull)]
        rfl
    have hclosing : l.foldl carryMember (m.closing [] []) =
        m.closing (l.take (m.closeRoom false)) (l.drop (m.closeRoom false)) := by
      rw [← hmissed, ← hcarried, ← List.foldl_append, List.take_append_drop]
    have hlost : (m.closing (l.take (m.closeRoom false)) (l.drop (m.closeRoom false))).missed = 0 ↔
        ¬ m.closeRoom false < l.length := by
      change (l.drop (m.closeRoom false)).length = 0 ↔ _
      rw [List.length_drop]
      omega
    simp only [Bool.false_eq_true, if_false, true_and, hclosing, hlost]
    split_ifs <;> simp [Part.closing, Part.setShared]

/-! The deferred entries of a close -/

/-- Members dealt with keep their deferred-pending sets and the order of their entries. -/
theorem Directory.dealt_deferredOf (carried missed : List (Nat × Member)) (d : Directory) (stop : Nat) :
    (d.dealt carried missed).deferredOf stop =
      (d.deferredOf stop).map (fun e => (e.1, Member.dealt carried missed e.1 e.2)) := by
  unfold Directory.deferredOf inKeyOrder Directory.ofStop
  have hdue : ((d.dealt carried missed).ways.filter (fun e => e.2.stop == stop)).filter (fun e => e.2.deferred != 0) =
      ((d.ways.filter (fun e => e.2.stop == stop)).filter (fun e => e.2.deferred != 0)).map
        (fun e => (e.1, Member.dealt carried missed e.1 e.2)) := by
    simp only [Directory.dealt, Table.mapEntries, List.filter_map, Function.comp_def, Member.dealt]
  rw [hdue]
  exact orderBy_map (fun _ _ => rfl) _

/-- The part once a stop's members have been dealt with and the stop has been shut, before its deferred entries are produced (R114). -/
def Part.shut (r : Stop) (drop : Bool) (m : Part) : Part :=
  let unread := m.unreadOf r.number
  let room := m.closeRoom drop
  Part.setShared (if drop = false ∧ room < unread.length then evSweepOverflow else 0)
    ((m.dealt (unread.take room) (unread.drop room)).onStops (Stops.shut r))

/-- A close deals with the stop's members, shuts the stop, and produces the members' deferred entries (R94, R114). -/
theorem closeStop_eq {m : Part} (hc : Table.Canonical m.dir.ways) (hsweep : m.stops.sweep.length ≤ 1024)
    (halerts : m.tamper.alerts.length ≤ 32) (r : Stop) (drop : Bool) :
    m.closeStop r drop =
      { part := Part.withAlerts ((m.dir.deferredOf r.number).map (fun e => m.deferredAlert e.2))
          { m.shut r drop with dir := { (m.shut r drop).dir with
              ways := emptyDeferred ((m.shut r drop).dir.deferredOf r.number) (m.shut r drop).dir.ways } }
        carried := min (m.closeRoom drop) (m.unreadOf r.number).length
        missed := (m.unreadOf r.number).length - m.closeRoom drop } := by
  have hentries : ((m.shut r drop).dir.deferredOf r.number).map (fun e => (m.shut r drop).deferredAlert e.2) =
      (m.dir.deferredOf r.number).map (fun e => m.deferredAlert e.2) := by
    rw [show (m.shut r drop).dir = m.dir.dealt _ _ from rfl, Directory.dealt_deferredOf, List.map_map]
    rfl
  have hreport := reportEach_eq ((m.shut r drop).dir.deferredOf r.number) (m := m.shut r drop) halerts
  rw [hentries] at hreport
  rw [← hreport, Part.closeStop, disposeMembers_eq hc hsweep]
  rfl

/-! What stands where after a close -/

/-- A member of the directory is UNREAD at the stop exactly when it stands among those of the close. -/
theorem Part.mem_unreadOf_places {m : Part} (hc : Table.Canonical m.dir.ways) {p : Nat} {r : Member}
    (hfind : Table.find m.dir.ways p = some r) {stop : Nat} {l : List (Nat × Member)}
    (hl : l.Sublist (m.unreadOf stop)) : p ∈ l.map Prod.fst ↔ (p, r) ∈ l := by
  constructor
  · intro hp
    obtain ⟨e, he, rfl⟩ := List.mem_map.mp hp
    obtain ⟨hmem, _, _⟩ := Part.mem_unreadOf.mp (hl.subset he)
    cases (hc.find_of_mem hmem).symm.trans hfind
    exact he
  · exact List.mem_map_of_mem (f := Prod.fst)

/-- The read state a close leaves a member in. -/
theorem closeState_unreadOf {m : Part} (hc : Table.Canonical m.dir.ways) {p : Nat} {r : Member}
    (hfind : Table.find m.dir.ways p = some r) (stop room : Nat) :
    closeState ((m.unreadOf stop).take room) ((m.unreadOf stop).drop room) p r.readState =
      if r.stop = stop ∧ r.readState = .unread then
        if (p, r) ∈ (m.unreadOf stop).take room then .carried else .missed
      else r.readState := by
  have hmem : (p, r) ∈ m.unreadOf stop ↔ r.stop = stop ∧ r.readState = .unread := by
    rw [Part.mem_unreadOf]
    exact and_iff_right (Table.mem_of_find hfind)
  simp only [← hmem, closeState, Part.mem_unreadOf_places hc hfind (List.take_sublist ..),
    Part.mem_unreadOf_places hc hfind (List.drop_sublist ..)]
  by_cases htake : (p, r) ∈ (m.unreadOf stop).take room
  · simp only [htake, List.mem_of_mem_take htake, if_true]
  · have hdrop : (p, r) ∈ (m.unreadOf stop).drop room ↔ (p, r) ∈ m.unreadOf stop := by
      conv_rhs => rw [← List.take_append_drop room (m.unreadOf stop), List.mem_append]
      exact (or_iff_right htake).symm
    simp only [htake, hdrop, if_false]

/-- A member after the close of a stop: one of the stop's has left UNREAD, with its deferred entry produced. -/
theorem find_shut_reported {m : Part} (hc : Table.Canonical m.dir.ways) (r : Stop) (drop : Bool) (p : Nat) :
    Table.find (emptyDeferred ((m.shut r drop).dir.deferredOf r.number) (m.shut r drop).dir.ways) p =
      (Table.find m.dir.ways p).map (fun x => if x.stop = r.number then { x with
          deferred := 0
          readState := (if x.readState = .unread then
            (if (p, x) ∈ (m.unreadOf r.number).take (m.closeRoom drop) then .carried else .missed) else x.readState) }
        else x) := by
  rw [find_emptyDeferred_of_stop (hc.mapEntries _), show (m.shut r drop).dir.ways = Table.mapEntries _ _ from rfl,
    Table.find_mapEntries, Option.map_map]
  cases hfind : Table.find m.dir.ways p with
  | none => rfl
  | some x =>
    simp only [Option.map_some, Function.comp_apply, Member.dealt, closeState_unreadOf hc hfind]
    by_cases hstop : x.stop = r.number <;> simp [hstop, Member.reported]

theorem Stops.shut_records (r : Stop) (u : Stops) : (u.shut r).records =
    Table.modify r.number (fun q => { q with state := .closed, slot := none }) u.records := by
  unfold Stops.shut
  cases r.slot <;> rfl

theorem Stops.shut_order (r : Stop) (u : Stops) : (u.shut r).order = u.order.filter (fun n => n != r.number) := by
  unfold Stops.shut
  cases r.slot <;> rfl

theorem Stops.shut_slots (r : Stop) (u : Stops) (i : Fin 4) :
    (u.shut r).slots[i] = if r.slot = some i then ⟨none, none⟩ else u.slots[i] := by
  unfold Stops.shut
  cases r.slot with
  | none => rfl
  | some j =>
    refine (Stops.getElem_setSlot j i ⟨none, none⟩ _).trans ?_
    simp only [Option.some_inj, eq_comm (a := i)]
    rfl

/-- Settles O50: what stands where after a close is read off block by block. -/
theorem stopCloseDealsWithItsMembers : Obligations.StopCloseDealsWithItsMembers := by
  intro r drop m hr hc hsweep halerts
  dsimp only
  rw [closeStop_eq hc hsweep halerts]
  have hreport := reportEach_eq (m.dir.deferredOf r.number) halerts
  refine ⟨m.unreadOf r.number, m.unreadOf_perm r.number, inKeyOrder_pairwise _, rfl, rfl, Stops.shut_sweep ..,
    find_shut_reported hc r drop, fun k => ?records, Stops.shut_order .., fun i => Stops.shut_slots .., ?counts,
    ?tamper, ?ports, rfl, rfl, rfl, rfl, rfl, rfl, rfl, rfl⟩
  case records =>
    refine (congrArg (Table.find · k) (Stops.shut_records r _)).trans ((Table.find_modify ..).trans ?_)
    split_ifs with hk
    · exact congrArg (Option.map _) (hk ▸ hr)
    · rfl
  case counts =>
    change (m.dir.dealt ((m.unreadOf r.number).take (m.closeRoom drop))
      ((m.unreadOf r.number).drop (m.closeRoom drop))).counts = _
    rw [Directory.dealt, ← List.length_append, List.take_append_drop, List.length_take, List.length_drop]
    rfl
  case tamper => exact (congrArg Part.tamper hreport).symm
  case ports =>
    have hcomm : ∀ shared lost events : EventSet, (shared ||| lost) ||| events = (shared ||| events) ||| lost := by
      intros
      ac_rfl
    rw [show (m.reportStop r.number).ports = _ from congrArg Part.ports hreport]
    simp only [Part.withAlerts_eq]
    exact congrArg (fun shared => { m.ports with shared := shared }) (hcomm ..)

end Sys2Proof.Machine
end

section
/-! SUPPORT. The stranger table (R49, R130 to R138): the replacement tree, the free way of a set, and what a stranger's telegram
makes of the table. -/

namespace Sys2Proof.Machine

/-! The replacement tree (R136, R137) -/

/-- A touch points the root away from the half of the way touched. -/
theorem Tree.touch_b0 (b : Tree) (way : Nat) : (b.touch way).b0 = decide (way < 2) := by
  match way with
  | 0 | 1 | 2 => rfl
  | n + 3 => exact (decide_eq_false (by omega)).symm

/-- The victim lies in the half to which the root points. -/
theorem Tree.victim_lt_two_iff (b : Tree) : b.victim < 2 ↔ b.b0 = false := by
  obtain ⟨b0, b1, b2⟩ := b
  revert b0 b1 b2
  decide

/-- The victim after a touch lies in the other half of the set. -/
theorem Tree.victim_touch_ne (b : Tree) (way : Nat) : (b.touch way).victim ≠ way := by
  intro h
  have hhalf := (b.touch way).victim_lt_two_iff
  rw [h, Tree.touch_b0, decide_eq_false_iff_not] at hhalf
  exact iff_not_self hhalf

/-- A touch changes the tree bits of the key's set alone. -/
theorem Strangers.tree_touch (t : Strangers) (k j : Key) (way : Nat) :
    (t.touch k way).tree j = if j.number.toNat % 64 = k.number.toNat % 64 then (t.tree k).touch way else t.tree j := by
  refine (Vector.getElem_set (strangerSet_lt k) (strangerSet_lt j)).trans ?_
  simp only [strangerSet, Config.strangerSets, eq_comm (a := k.number.toNat % 64)]
  rfl

/-- Settles O30: the bits are those of the definition; the way touched lies in the half that the tree then leaves. -/
theorem touchAndVictim : Obligations.TouchAndVictim := by
  refine ⟨fun b => ⟨rfl, rfl, rfl, rfl⟩, fun x => ⟨rfl, rfl, ?_, ?_⟩, fun b way _ => b.victim_touch_ne way, rfl,
    Strangers.tree_touch⟩
  all_goals cases x <;> rfl

/-! The free way (R135) -/

theorem Strangers.freeWay_eq_some_iff {t : Strangers} {k : Key} {w : Nat} :
    t.freeWay k = some w ↔ w < 4 ∧ Table.find t.entries (k.number.toNat % 64 * 4 + w) = none ∧
      ∀ v < w, Table.find t.entries (k.number.toNat % 64 * 4 + v) ≠ none := by
  unfold Strangers.freeWay
  simp only [findWay_eq_some_iff, Option.isNone_iff_eq_none, Option.isNone_eq_false_iff, Option.isSome_iff_ne_none,
    strangerSet, Config.strangerSets, Config.ways]
  exact and_left_comm

theorem Strangers.freeWay_eq_none_iff {t : Strangers} {k : Key} :
    t.freeWay k = none ↔ ∀ w < 4, Table.find t.entries (k.number.toNat % 64 * 4 + w) ≠ none := by
  unfold Strangers.freeWay
  simp only [findWay_eq_none_iff, Option.isNone_eq_false_iff, Option.isSome_iff_ne_none, strangerSet, Config.strangerSets,
    Config.ways]

/-! A stranger's telegram (R133) -/

section
variable {m : Part} {q : Queued}

theorem hear_stranger (h : m.dir.lookup q.telegram.key = none) : m.hear q = m.hearStranger q m.stops.lead := by
  unfold Part.hear
  rw [h]

theorem hearStranger_known {p : Nat} {old : Stranger} (h : m.strangers.lookup q.telegram.key = some (p, old))
    (lead : Option Nat) : m.hearStranger q lead = { m with strangers := m.strangers.refresh p q } := by
  unfold Part.hearStranger
  rw [h]

theorem hearStranger_room {w : Nat} (h : m.strangers.lookup q.telegram.key = none)
    (hfree : m.strangers.freeWay q.telegram.key = some w) (lead : Option Nat) :
    m.hearStranger q lead = { m with strangers := m.strangers.insert w q lead } := by
  unfold Part.hearStranger
  rw [h]
  dsimp only
  rw [hfree]

theorem hearStranger_full (h : m.strangers.lookup q.telegram.key = none)
    (hfull : m.strangers.freeWay q.telegram.key = none) (lead : Option Nat) :
    m.hearStranger q lead = Part.setShared evStrangerEvicted { m with strangers := m.strangers.evict q lead } := by
  unfold Part.hearStranger
  rw [h]
  dsimp only
  rw [hfull]

/-- The stranger table hears a telegram whatever the intake holds. -/
theorem hearStranger_withIntake (q : Queued) (lead : Option Nat) (m : Part) (k : Intake) :
    Part.hearStranger q lead { m with intake := k } = { m.hearStranger q lead with intake := k } := by
  unfold Part.hearStranger
  dsimp only
  split
  · rfl
  · split <;> rfl

end

/-- A stranger's telegram that is not dropped goes to the stranger table, and the engine takes the next head (R46, R49). -/
theorem completeTelegram_of_stranger {m : Part} {e : Evaluation} (hvoid : e.void = false) (hstate : m.route.state = .running)
    (hdir : m.dir.lookup e.queued.telegram.key = none) :
    m.completeTelegram e = { m.hearStranger e.queued m.stops.lead with intake := m.intake.afterEnd } := by
  rw [completeTelegram_of_heard hvoid hstate,
    hear_stranger (m := { m with intake := { m.intake with eval := none } }) hdir, hearStranger_withIntake]

/-- Settles O23: the completion hears a stranger; what becomes of the table follows its lookup and its set's free way. -/
theorem completionHearsAStranger : Obligations.CompletionHearsAStranger := by
  intro s e halive heval hvoid hstate hdir
  have hbecomes := telegramCompletion_becomes halive heval (completeTelegram_of_stranger hvoid hstate hdir)
  refine ⟨fun p old hknown => ?_, fun hnew => ⟨fun w hw hfree hlower => ?_, fun hfull => ?_⟩⟩
  · rw [hearStranger_known hknown] at hbecomes
    exact hbecomes
  · rw [hearStranger_room hnew (Strangers.freeWay_eq_some_iff.mpr ⟨hw, hfree, hlower⟩)] at hbecomes
    exact hbecomes
  · rw [hearStranger_full hnew (Strangers.freeWay_eq_none_iff.mpr hfull)] at hbecomes
    exact hbecomes

end Sys2Proof.Machine
end

section
/-! SUPPORT. Member queries (R145 to R149): when a member fits a selection, what QUERY MEMBERS answers, and what one reach of a
scan does. -/

namespace Sys2Proof.Machine

/-! Selections -/

theorem readStateBit_eq_readStateCode (q : ReadState) : readStateBit q = readStateCode q := by cases q <;> rfl

theorem tamperBit_eq_tamperStateCode (q : TamperState) : tamperBit q = tamperStateCode q := by cases q <;> rfl

/-- Bit 0 of the histories selects the members with a prior reading, bit 1 those without one (R145). -/
theorem historyBit_eq {α : Type} [DecidableEq α] (prior : Option α) :
    (if prior.isSome then 0 else 1) = if prior = none then 1 else 0 := by cases prior <;> rfl

theorem Selection.fits_iff (q : Selection) (r : Member) : q.fits r = true ↔
    q.readStates.getLsbD (readStateCode r.readState) = true ∧ q.tamperStates.getLsbD (tamperStateCode r.tamper) = true ∧
    q.kinds.getLsbD (kindCode r.key.kind - 1) = true ∧
    q.histories.getLsbD (if r.prior = none then 1 else 0) = true ∧ (q.stop = none ∨ q.stop = some r.stop) := by
  simp only [Selection.fits, inSet, readStateBit_eq_readStateCode, tamperBit_eq_tamperStateCode, historyBit_eq,
    Bool.and_eq_true, and_assoc]
  cases q.stop with
  | none => simp only [true_or]
  | some n => simp only [beq_iff_eq, reduceCtorEq, false_or, Option.some.injEq, @eq_comm _ n]

/-- No member can fit a selection one of whose four sets is empty (R147). -/
theorem Selection.vacuous_iff (q : Selection) :
    q.vacuous = true ↔ q.readStates = 0 ∨ q.tamperStates = 0 ∨ q.kinds = 0 ∨ q.histories = 0 := by
  simp [Selection.vacuous, or_assoc]

/-! QUERY MEMBERS -/

theorem Part.queryBusy_iff (m : Part) (p : HostPort) :
    m.queryBusy p = true ↔ (∃ c, (m.port p).scan = some c) ∨ ∃ x ∈ (m.port p).link.out, x.scan = true := by
  simp [Part.queryBusy, Link.scanWaits, Option.isSome_iff_exists]

theorem Part.queryBusy_eq_false {m : Part} {p : HostPort} (hfree : (m.port p).scan = none)
    (hout : ∀ x ∈ (m.port p).link.out, x.scan = false) : m.queryBusy p = false := by
  simpa [Part.queryBusy, Link.scanWaits, hfree] using hout

theorem queryOf_length {body : List Byte} {e : Selection × Nat} (h : queryOf body = some e) : body.length + 2 ≤ 64 := by
  unfold queryOf at h
  split_ifs at h with hlength
  omega

section
variable {p : HostPort} {m : Part} {body : List Byte} {q : Selection} {start : Nat}

theorem serveQueryMembers_busy (hstate : m.route.state ≠ .empty) (hbusy : m.queryBusy p = true) (tag : Byte) :
    serveQueryMembers p tag body m = m.answer p tag .busy .none := by
  simp only [serveQueryMembers, if_neg hstate, if_pos hbusy]
  rfl

/-- An empty selection is answered END at once, past the last position (R147). -/
theorem serveQueryMembers_vacuous (hstate : m.route.state ≠ .empty) (hidle : m.queryBusy p = false)
    (hbody : queryOf body = some (q, start)) (hvacuous : q.vacuous = true) (tag : Byte) :
    serveQueryMembers p tag body m = m.answer p tag .ok (.found [] 8192) := by
  simp only [serveQueryMembers, if_neg hstate, hidle, hbody, hvacuous, if_true]
  rfl

/-- The context takes tag, selection and cursor, and no response is sent (R147). -/
theorem serveQueryMembers_started (hstate : m.route.state ≠ .empty) (hidle : m.queryBusy p = false)
    (hbody : queryOf body = some (q, start)) (hfit : q.vacuous = false) (tag : Byte) :
    serveQueryMembers p tag body m = m.setScan p (some ⟨tag, q, start, []⟩) := by
  simp only [serveQueryMembers, if_neg hstate, hidle, hbody, hfit]
  rfl

end

/-! The reach of a position -/

theorem Scan.reach_vacant {c : Scan} {d : Directory} (h : Table.find d.ways c.next = none) :
    c.reach d = { c with next := c.next + 1 } := by
  simp only [Scan.reach, h]

theorem Scan.reach_member {c : Scan} {d : Directory} {r : Member} (h : Table.find d.ways c.next = some r) :
    c.reach d = { c with
      next := c.next + 1
      found := if c.selection.fits r then c.found ++ [matchOf c.next r] else c.found } := by
  simp only [Scan.reach, h]

theorem Scan.complete_iff (c : Scan) : c.complete = true ↔ 16 ≤ c.found.length ∨ 8192 ≤ c.next := by
  rw [Scan.complete, Bool.or_eq_true, decide_eq_true_eq, decide_eq_true_eq]
  rfl

section
variable {m : Part} {c next : Scan}

theorem reachScan_goesOn (hreach : c.reach m.dir = next) (h : next.complete = false) (p : HostPort) :
    m.reachScan p c = m.onPort p (fun k => { k with scan := some next }) := by
  simp only [Part.reachScan, hreach, h]
  rfl

/-- A scan that completes frees its context, and its response takes the kept place of the output queue (R149, R182). -/
theorem reachScan_completes (hreach : c.reach m.dir = next) (h : next.complete = true) (p : HostPort) :
    m.reachScan p c = m.onPort p (fun k => { k with
      scan := none
      link := { k.link with out := k.link.out ++ [⟨.ok, c.tag, .found next.found next.next, true⟩] } }) := by
  simp only [Part.reachScan, hreach, h, if_true]
  cases p <;> rfl

end

section
variable {s : State} {p : HostPort}

/-- With no scan in flight there is none to reach (log 4). -/
theorem scanReach_becomes_idle (halive : s.part.alive = true) (hfree : (s.part.port p).scan = none) :
    Becomes (.scanReach p) s s.part := by
  refine (act_alive halive _).trans ?_
  simp only [hfree]

theorem scanReach_becomes (halive : s.part.alive = true) {c : Scan} (hscan : (s.part.port p).scan = some c) {m : Part}
    (h : s.part.reachScan p c = m) : Becomes (.scanReach p) s m := by
  refine (act_alive halive _).trans ?_
  simp only [hscan, h]

end

/-- Settles O54: QUERY MEMBERS' answers are the cases of the port's engine and of the selection, and a reach's those of the scan
after it. -/
theorem queriesScanTheDirectory : Obligations.QueriesScanTheDirectory := by
  refine ⟨Selection.fits_iff, fun p tag body s hready hstate => ⟨fun hbusy hfits => ?_, fun hfree hout q start hbody => ?_⟩,
    fun p s halive => ⟨scanReach_becomes_idle halive, fun c hscan => ?_⟩⟩
  · exact request_becomes (r := .queryMembers) (by cases p <;> decide) hready hfits
      (serveQueryMembers_busy hstate ((s.part.queryBusy_iff p).mpr hbusy) tag)
  · have hidle := Part.queryBusy_eq_false hfree hout
    have becomes : ∀ {m : Part}, serveQueryMembers p tag body s.part = m → Becomes (.queryMembers p tag body) s m :=
      request_becomes (r := .queryMembers) (by cases p <;> decide) hready (queryOf_length hbody)
    refine ⟨fun hempty => ?_, fun hread htamper hkinds hhistories => ?_⟩
    · exact becomes (serveQueryMembers_vacuous hstate hidle hbody (q.vacuous_iff.mpr hempty) tag)
    · have hfit : q.vacuous = false := by
        rw [Bool.eq_false_iff, ne_eq, q.vacuous_iff]
        simp only [not_or]
        exact ⟨hread, htamper, hkinds, hhistories⟩
      exact becomes (serveQueryMembers_started hstate hidle hbody hfit tag)
  · intro found
    have hreach : c.reach s.part.dir = { c with next := c.next + 1, found := found } := by
      cases hfind : Table.find s.part.dir.ways c.next with
      | none => simp only [Scan.reach_vacant hfind, found, hfind]
      | some r => simp only [Scan.reach_member hfind, matchOf, found, hfind]
    refine ⟨fun hfew hnext => ?_, fun hend => ?_⟩
    · refine scanReach_becomes halive hscan (reachScan_goesOn hreach ?_ p)
      rw [← Bool.not_eq_true, Scan.complete_iff]
      dsimp only
      omega
    · refine scanReach_becomes halive hscan (reachScan_completes hreach ?_ p)
      rw [Scan.complete_iff]
      dsimp only
      omega

end Sys2Proof.Machine
end

section
/-! SUPPORT. Upload items moved from one state to another (R162): what a chain of such moves writes to the reading records, to
the stranger entries and to the upload order, and what it leaves as it was. -/

namespace Sys2Proof.Machine

/-! Moves -/

/-- A miss item keeps its upload state in the order; the other items keep theirs in their records (R162). -/
def UploadItem.marked (u : UploadState) : UploadItem → UploadItem
  | .miss key _ => .miss key u
  | x => x

/-- An item whose upload state stands in a record of its own. -/
def UploadItem.Recorded : UploadItem → Prop
  | .miss _ _ => False
  | _ => True

theorem UploadItem.marked_eq_iff {x y : UploadItem} (hy : y.Recorded) (u : UploadState) : x.marked u = y ↔ x = y := by
  cases x
  case miss => cases y <;> simp_all [UploadItem.marked, UploadItem.Recorded]
  case reading | stranger => exact .rfl

/-- The items with these numbers have been moved, each reading record among them with this batch number: `ItemsMoved` with the
batch table and the counter kept as well. -/
structure MovesItems (m n : Part) (numbers : List Nat) (u : UploadState) (batch : Option Nat) : Prop where
  frame : ∃ store entries order, n = { m with
    store := store
    strangers := { m.strangers with entries := entries }
    upload := { m.upload with order := order } }
  order : n.upload.order.isSome = m.upload.order.isSome
  store : ∀ j : Nat, n.store[j]? = m.store[j]?.map (fun r =>
    if ∃ k ∈ numbers, m.upload.items[k]? = some (.reading j) then { r with upload := u, batch := batch } else r)
  entries : ∀ p : Nat, Table.find n.strangers.entries p = (Table.find m.strangers.entries p).map (fun x =>
    if ∃ k ∈ numbers, m.upload.items[k]? = some (.stranger p) then { x with upload := u } else x)
  items : ∀ k : Nat, n.upload.items[k]? = m.upload.items[k]?.map (fun x => if k ∈ numbers then x.marked u else x)

theorem MovesItems.batches {m n : Part} {numbers : List Nat} {u : UploadState} {batch : Option Nat}
    (h : MovesItems m n numbers u batch) : n.upload.batches = m.upload.batches := by
  obtain ⟨_, _, _, rfl⟩ := h.frame
  rfl

theorem MovesItems.counter {m n : Part} {numbers : List Nat} {u : UploadState} {batch : Option Nat}
    (h : MovesItems m n numbers u batch) : n.upload.counter = m.upload.counter := by
  obtain ⟨_, _, _, rfl⟩ := h.frame
  rfl

/-- A move leaves every reading and stranger item in its place in the order. -/
theorem MovesItems.recorded_iff {m n : Part} {numbers : List Nat} {u : UploadState} {batch : Option Nat}
    (h : MovesItems m n numbers u batch) {x : UploadItem} (hx : x.Recorded) (k : Nat) :
    n.upload.items[k]? = some x ↔ m.upload.items[k]? = some x := by
  rw [h.items]
  split_ifs
  · simp [UploadItem.marked_eq_iff hx]
  · rw [Option.map_id']

theorem MovesItems.refl (m : Part) (u : UploadState) (batch : Option Nat) : MovesItems m m [] u batch where
  frame := ⟨_, _, _, rfl⟩
  order := rfl
  store j := by simp
  entries p := by simp
  items k := by simp

/-- The numbers of two lists together name what one of the lists names. -/
theorem exists_mem_append_iff {P : Nat → Prop} (a b : List Nat) :
    (∃ k ∈ a ++ b, P k) ↔ (∃ k ∈ a, P k) ∨ ∃ k ∈ b, P k := by
  simp only [List.mem_append, or_and_right, exists_or]

/-- One move after another to the same upload state. -/
theorem MovesItems.trans {m n o : Part} {a b : List Nat} {u : UploadState} {batch : Option Nat}
    (h : MovesItems m n a u batch) (h' : MovesItems n o b u batch) : MovesItems m o (a ++ b) u batch where
  frame := by
    obtain ⟨_, _, _, rfl⟩ := h.frame
    obtain ⟨_, _, _, rfl⟩ := h'.frame
    exact ⟨_, _, _, rfl⟩
  order := h'.order.trans h.order
  store j := by
    rw [h'.store, h.store, Option.map_map]
    simp only [h.recorded_iff (x := .reading j) trivial, exists_mem_append_iff]
    congr 1
    funext r
    by_cases ha : ∃ k ∈ a, m.upload.items[k]? = some (.reading j) <;> simp [ha]
  entries p := by
    rw [h'.entries, h.entries, Option.map_map]
    simp only [h.recorded_iff (x := .stranger p) trivial, exists_mem_append_iff]
    congr 1
    funext x
    by_cases ha : ∃ k ∈ a, m.upload.items[k]? = some (.stranger p) <;> simp [ha]
  items k := by
    have marked_marked : ∀ x : UploadItem, (x.marked u).marked u = x.marked u := fun x => by cases x <;> rfl
    rw [h'.items, h.items, Option.map_map]
    simp only [List.mem_append]
    congr 1
    funext x
    by_cases ha : k ∈ a <;> by_cases hb : k ∈ b <;> simp [ha, hb, marked_marked]

/-- Writing one item's state moves that item alone. -/
theorem setItem_moves (u : UploadState) (batch : Option Nat) (m : Part) (k : Nat) :
    MovesItems m (m.setItem u batch k) [k] u batch := by
  unfold Part.setItem
  split
  · next hitem =>
    refine ⟨⟨_, _, _, rfl⟩, rfl, fun j => ?_, fun p => ?_, fun i => ?_⟩
    · simp [hitem]
    · simp [hitem]
    · by_cases hi : i = k <;> simp [hi, hitem]
  · next i hitem =>
    refine ⟨⟨_, _, _, rfl⟩, rfl, fun j => ?_, fun p => ?_, fun l => ?_⟩
    · simp [hitem, List.getElem?_modify]
    · simp [hitem]
    · by_cases hl : l = k <;> simp [hl, hitem, UploadItem.marked]
  · next key old hitem =>
    refine ⟨⟨_, _, _, rfl⟩, by simp, fun j => ?_, fun p => ?_, fun l => ?_⟩
    · simp [hitem]
    · simp [hitem]
    · unfold Upload.items at hitem ⊢
      cases horder : m.upload.order with
      | none => simp [horder] at hitem
      | some o =>
        rw [horder, Option.getD_some] at hitem
        rw [Option.map_some, Option.getD_some, Option.getD_some]
        by_cases hl : l = k
        · subst hl
          rw [List.getElem?_set_self (List.getElem?_eq_some_iff.mp hitem).1, hitem]
          simp [UploadItem.marked]
        · simp [Ne.symm hl, hl]
  · next q hitem =>
    refine ⟨⟨_, _, _, rfl⟩, rfl, fun j => ?_, fun p => ?_, fun l => ?_⟩
    · simp [hitem]
    · rw [Table.find_modify]
      by_cases hp : p = q
      · simp [hitem, hp]
      · simp [hitem, hp, Ne.symm hp]
    · by_cases hl : l = k <;> simp [hl, hitem, UploadItem.marked]

/-- Writing the state of every item of a list moves those items and no other (R162). -/
theorem setItems_moves (u : UploadState) (batch : Option Nat) (numbers : List Nat) (m : Part) :
    MovesItems m (m.setItems u batch numbers) numbers u batch := by
  unfold Part.setItems
  induction numbers generalizing m with
  | nil => exact .refl m u batch
  | cons k rest ih => exact (setItem_moves u batch m k).trans (ih _)

/-- A move is the move of the statements, whatever becomes of the batch table and the counter. -/
theorem MovesItems.itemsMoved {m n : Part} {numbers : List Nat} {u : UploadState} {batch : Option Nat}
    (h : MovesItems m n numbers u batch) (batches : List Batch) (counter : Nat) :
    m.ItemsMoved { n with upload := { n.upload with batches := batches, counter := counter } } numbers u batch := by
  obtain ⟨⟨_, _, _, rfl⟩, horder, hstore, hentries, hitems⟩ := h
  refine ⟨rfl, rfl, rfl, rfl, rfl, rfl, rfl, rfl, rfl, horder, hstore, rfl, rfl, hentries, fun k => (hitems k).trans ?_⟩
  congr 1
  funext x
  cases x
  case miss => split_ifs <;> rfl
  case reading | stranger => exact ite_self _

end Sys2Proof.Machine
end

section
/-! SUPPORT. BEGIN UPLOAD, NEXT BATCH, CONFIRM BATCH, REJECT BATCH and a confirm timer's expiry (R35, R36, R158 to R170, R175). -/

namespace Sys2Proof.Machine

/-! BEGIN UPLOAD -/

theorem serveBeginUpload_taken {m : Part} (hstate : m.route.state = .returned) (tag : Byte) :
    serveBeginUpload tag [] m = (m.formOrder.moveRoute m.formOrder.uploadState).answer .depot tag .ok
      (.routeState m.formOrder.uploadState) := by
  simp only [serveBeginUpload, hstate]
  rfl

theorem Part.uploadState_eq (m : Part) : m.uploadState = if m.upload.items = [] then .done else .uploading := by
  simp only [Part.uploadState, List.isEmpty_iff]

/-- Settles O43: the miss items are the MISSED members in key order, and the route state is that of the order formed. -/
theorem beginUploadFormsTheOrder : Obligations.BeginUploadFormsTheOrder := by
  intro tag s hready hstate
  refine ⟨inKeyOrder (s.part.dir.ways.filter (fun e => e.2.readState == .missed)), inKeyOrder_perm _,
    inKeyOrder_pairwise _, ?_⟩
  refine request_becomes (p := .depot) (r := .beginUpload) (by decide) hready (by decide) ?_
  refine (serveBeginUpload_taken hstate tag).trans ?_
  rw [Part.uploadState_eq]
  rfl

/-! NEXT BATCH -/

/-- The FRESH items by number: those whose number names a FRESH item (R166). -/
theorem Part.freshItems_eq (m : Part) : m.freshItems = (List.range m.upload.items.length).filter
    (fun n => m.upload.items[n]?.map m.itemState == some UploadState.fresh) := by
  have hnumbered : m.upload.items.zipIdx.filter (fun e => m.itemState e.1 == .fresh) = m.upload.items.zipIdx.filter
      ((fun n => m.upload.items[n]?.map m.itemState == some UploadState.fresh) ∘ Prod.snd) := by
    refine List.filter_congr fun e he => ?_
    rw [Function.comp_apply, List.mem_zipIdx_iff_getElem?.mp he]
    rfl
  rw [Part.freshItems, hnumbered, ← List.filter_map, List.zipIdx_map_snd, List.range_eq_range']

/-- The next number passes over that of the other outstanding batch (R164). -/
theorem Upload.newNumber_eq (u : Upload) : u.newNumber =
    if ∃ b ∈ u.batches, b.number = nextNumber u.counter then nextNumber (nextNumber u.counter) else nextNumber u.counter := by
  simp only [Upload.newNumber, List.any_eq_true, beq_iff_eq]

section
variable {m : Part} (hstate : m.route.state = .uploading)
include hstate

theorem serveNextBatch_windowFull (h : 2 ≤ m.upload.batches.length) (tag : Byte) :
    serveNextBatch tag [] m = m.answer .depot tag .windowFull (.windowFull m.upload.times) := by
  have hfull : Config.batchPlaces ≤ m.upload.batches.length := h
  simp only [serveNextBatch, hstate, if_pos hfull]
  rfl

theorem serveNextBatch_nothing (hroom : m.upload.batches.length < 2) (h : m.freshItems = []) (tag : Byte) :
    serveNextBatch tag [] m =
      m.answer .depot tag .nothing (.nothing (m.countItems .batched) m.upload.times) := by
  have hfull : ¬ Config.batchPlaces ≤ m.upload.batches.length := not_le.mpr hroom
  simp only [serveNextBatch, hstate, if_neg hfull, h]
  rfl

theorem serveNextBatch_formed (hroom : m.upload.batches.length < 2) (h : m.freshItems ≠ []) (tag : Byte) :
    serveNextBatch tag [] m = (m.formBatch m.upload.newNumber (m.freshItems.take 64)).answer .depot tag .ok
      (.batch m.upload.newNumber
        ((m.formBatch m.upload.newNumber (m.freshItems.take 64)).batchContents (m.freshItems.take 64))) := by
  have hfull : ¬ Config.batchPlaces ≤ m.upload.batches.length := not_le.mpr hroom
  simp only [serveNextBatch, hstate, if_neg hfull, List.isEmpty_iff, if_neg h]
  rfl

end

/-- What an item carries is what its record, its member or its entry holds (R159 to R161). -/
theorem Part.itemContent_holds (m : Part) :
    (∀ (i : Nat) (r : Record), m.store[i]? = some r → m.itemContent (.reading i) = some (.reading r)) ∧
    (∀ (k : Key) (u : UploadState) (p : Nat) (r : Member), m.dir.lookup k = some (p, r) →
      m.itemContent (.miss k u) = some (.miss k r.stop r.tamper r.latched)) ∧
    ∀ (p : Nat) (e : Stranger), Table.find m.strangers.entries p = some e →
      m.itemContent (.stranger p) = some (.stranger p e) := by
  refine ⟨fun i r h => ?_, fun k u p r h => ?_, fun p e h => ?_⟩ <;> simp only [Part.itemContent, h, Option.map_some]

/-- Settles O44: the answers are the cases of the batch table and of the FRESH items. -/
theorem nextBatchFormsABatch : Obligations.NextBatchFormsABatch := by
  refine ⟨Part.itemContent_holds, fun tag s hready hstate => ?_⟩
  have becomes : ∀ {m : Part}, serveNextBatch tag [] s.part = m → Becomes (.nextBatch tag []) s m :=
    request_becomes (p := .depot) (r := .nextBatch) (by decide) hready (by decide)
  intro u fresh following
  have hfresh : s.part.freshItems = fresh := s.part.freshItems_eq
  refine ⟨fun hfull => becomes (serveNextBatch_windowFull hstate hfull tag),
    fun hroom hnone => becomes (serveNextBatch_nothing hstate hroom (hfresh.trans hnone) tag), fun hroom hsome => ?_⟩
  have hitems := setItems_moves .batched (some u.newNumber) (fresh.take 64) s.part
  refine ⟨u.newNumber, s.part.formBatch u.newNumber (fresh.take 64), u.newNumber_eq, hitems.itemsMoved .., ?_, rfl, becomes ?_⟩
  · exact congrArg (· ++ [_]) hitems.batches
  · rw [← hfresh] at hsome ⊢
    exact serveNextBatch_formed hstate hroom hsome tag

/-! CONFIRM BATCH, REJECT BATCH and a confirm timer's expiry -/

theorem batchNumberOf_length {body : List Byte} {n : Nat} (h : batchNumberOf body = some n) : body.length + 2 ≤ 64 := by
  unfold batchNumberOf at h
  split_ifs at h with hbody
  omega

/-- An outstanding batch is found by its number. -/
theorem Upload.batch_eq_some {u : Upload} {n : Nat} {b : Batch} (h : u.batch n = some b) : b ∈ u.batches ∧ b.number = n :=
  ⟨List.mem_of_find?_eq_some h, by simpa using List.find?_some h⟩

section
variable {m : Part} {body : List Byte} {n : Nat}

section
variable (hstate : m.route.state = .uploading) (hbody : batchNumberOf body = some n)
include hstate hbody

theorem serveConfirmBatch_stale (h : m.upload.batch n = none) (tag : Byte) :
    serveConfirmBatch tag body m = m.answer .depot tag .stale (.stale n) := by
  simp only [serveConfirmBatch, hstate, hbody, h]
  rfl

theorem serveRejectBatch_stale (h : m.upload.batch n = none) (tag : Byte) :
    serveRejectBatch tag body m = m.answer .depot tag .stale (.stale n) := by
  simp only [serveRejectBatch, hstate, hbody, h]
  rfl

theorem serveRejectBatch_taken {b : Batch} (h : m.upload.batch n = some b) (tag : Byte) :
    serveRejectBatch tag body m =
      ((m.returnBatch b).setShared evBatchReturned).answer .depot tag .ok (.rejected n b.items.length) := by
  simp only [serveRejectBatch, hstate, hbody, h]
  rfl

/-- The items were the last: the route becomes DONE (R36, R168). -/
theorem serveConfirmBatch_last {b : Batch} (h : m.upload.batch n = some b) (hall : (m.confirmItems b).allConfirmed = true)
    (tag : Byte) : serveConfirmBatch tag body m = ((m.confirmItems b).moveRoute .done).answer .depot tag .ok
      (.confirmed n b.items.length ((m.confirmItems b).countItems .confirmed) true .done) := by
  have hdone : ((m.confirmItems b).moveRoute .done).allConfirmed = true := hall
  simp only [serveConfirmBatch, hstate, hbody, h, Part.finishUpload, if_pos hall, hdone]
  rfl

theorem serveConfirmBatch_more {b : Batch} (h : m.upload.batch n = some b) (hall : (m.confirmItems b).allConfirmed = false)
    (tag : Byte) : serveConfirmBatch tag body m = (m.confirmItems b).answer .depot tag .ok
      (.confirmed n b.items.length ((m.confirmItems b).countItems .confirmed) false .uploading) := by
  have hstays : (m.confirmItems b).finishUpload = m.confirmItems b := if_neg (by simp [hall])
  simp only [serveConfirmBatch, hstate, hbody, h, hstays, hall, Part.confirmItems_route]
  rfl

end

/-- A batch's items moved, and the batch retired (R167 to R169). -/
theorem retired_moves (b : Batch) (u : UploadState) (batch : Option Nat) (m : Part) :
    m.ItemsMoved ((m.setItems u batch b.items).retire b.number) b.items u batch ∧
    ((m.setItems u batch b.items).retire b.number).upload.counter = m.upload.counter ∧
    ((m.setItems u batch b.items).retire b.number).upload.batches =
      m.upload.batches.filter (fun x => x.number != b.number) := by
  have hitems := setItems_moves u batch b.items m
  exact ⟨hitems.itemsMoved .., hitems.counter, congrArg _ hitems.batches⟩

theorem expireBatch_stale (h : m.upload.batch n = none) : m.expireBatch n = m := by
  simp only [Part.expireBatch, h]

theorem expireBatch_not_due {b : Batch} (h : m.upload.batch n = some b) (hdue : b.timer.due = false) :
    m.expireBatch n = m := by
  simp only [Part.expireBatch, h, hdue]
  rfl

theorem expireBatch_due {b : Batch} (h : m.upload.batch n = some b) (hdue : b.timer.due = true) :
    m.expireBatch n = (m.returnBatch b).setShared evBatchReturned := by
  simp only [Part.expireBatch, h, hdue, if_true]

end

/-- Every item is CONFIRMED exactly when the CONFIRMED items are as many as the items (R36). -/
theorem Part.allConfirmed_iff (m : Part) : m.allConfirmed = true ↔
    m.upload.items.countP (fun i => m.itemState i == .confirmed) = m.upload.items.length := by
  rw [Part.allConfirmed, List.all_eq_true, List.countP_eq_length]

theorem expiry_becomes {s : State} (halive : s.part.alive = true) {n : Nat} {m : Part} (h : s.part.expireBatch n = m) :
    Becomes (.confirmTimerExpiry n) s m := h ▸ act_alive halive (Part.expireBatch n)

/-- Settles O45: the number finds a batch or it does not, and a batch found is confirmed, or returned. -/
theorem batchesAreRetired : Obligations.BatchesAreRetired := by
  intro tag body n s
  have confirms : ∀ {m : Part}, Ready s .depot → batchNumberOf body = some n → serveConfirmBatch tag body s.part = m →
      Becomes (.confirmBatch tag body) s m := fun hready hbody =>
    request_becomes (p := .depot) (r := .confirmBatch) (by decide) hready (batchNumberOf_length hbody)
  have rejects : ∀ {m : Part}, Ready s .depot → batchNumberOf body = some n → serveRejectBatch tag body s.part = m →
      Becomes (.rejectBatch tag body) s m := fun hready hbody =>
    request_becomes (p := .depot) (r := .rejectBatch) (by decide) hready (batchNumberOf_length hbody)
  refine ⟨fun hready hstate hbody => ⟨fun hnone => ?_, fun b hb => ⟨?_, ?_⟩⟩, fun halive =>
    ⟨fun hnone => expiry_becomes halive (expireBatch_stale hnone), fun b hb =>
      ⟨fun hdue => expiry_becomes halive (expireBatch_not_due hb hdue), fun hdue => ?_⟩⟩⟩
  · exact ⟨confirms hready hbody (serveConfirmBatch_stale hstate hbody hnone tag),
      rejects hready hbody (serveRejectBatch_stale hstate hbody hnone tag)⟩
  · obtain ⟨_, rfl⟩ := Upload.batch_eq_some hb
    obtain ⟨hmoved, hcounter, hbatches⟩ := retired_moves b .confirmed (some b.number) s.part
    refine ⟨s.part.confirmItems b, hmoved, hcounter, hbatches, fun hall => ?_, fun hmore => ?_⟩
    · exact confirms hready hbody
        (serveConfirmBatch_last hstate hbody hb ((s.part.confirmItems b).allConfirmed_iff.mpr hall) tag)
    · refine confirms hready hbody (serveConfirmBatch_more hstate hbody hb ?_ tag)
      rw [Bool.eq_false_iff, ne_eq, Part.allConfirmed_iff]
      exact hmore
  · obtain ⟨_, rfl⟩ := Upload.batch_eq_some hb
    obtain ⟨hmoved, hcounter, hbatches⟩ := retired_moves b .fresh none s.part
    exact ⟨_, hmoved, hcounter, hbatches, rejects hready hbody (serveRejectBatch_taken hstate hbody hb tag)⟩
  · obtain ⟨_, rfl⟩ := Upload.batch_eq_some hb
    obtain ⟨hmoved, hcounter, hbatches⟩ := retired_moves b .fresh none s.part
    exact ⟨_, hmoved, hcounter, hbatches, expiry_becomes halive (expireBatch_due hb hdue)⟩

end Sys2Proof.Machine
end

section
/-! SUPPORT. What an event makes of the upload order, the outstanding batches, the reading records and the strangers (R52, R133,
R158 to R176), said once: most events leave them as they are. -/

namespace Sys2Proof.Machine

/-! What leaves the items and their records as they were -/

/-- The parts have the same route state, upload engine, reading store and stranger table. -/
structure SameItems (m n : Part) : Prop where
  state : n.route.state = m.route.state
  upload : n.upload = m.upload
  store : n.store = m.store
  strangers : n.strangers = m.strangers

theorem SameItems.refl (m : Part) : SameItems m m := ⟨rfl, rfl, rfl, rfl⟩

theorem SameItems.trans {m n k : Part} (h : SameItems m n) (h' : SameItems n k) : SameItems m k where
  state := h'.state.trans h.state
  upload := h'.upload.trans h.upload
  store := h'.store.trans h.store
  strangers := h'.strangers.trans h.strangers

theorem sameItems_of_sameBlocks {m n : Part} (h : m.SameBlocks n) : SameItems m n := by
  obtain ⟨_, _, _, rfl⟩ := h
  exact ⟨rfl, rfl, rfl, rfl⟩

theorem sameItems_foldl {α : Type} {f : Part → α → Part} (h : ∀ m x, SameItems m (f m x)) (l : List α) (m : Part) :
    SameItems m (l.foldl f m) :=
  List.foldlRecOn l f (SameItems.refl m) fun _ hm x _ => hm.trans (h _ x)

theorem setReadState_sameItems (p : Nat) (r : ReadState) (m : Part) : SameItems m (m.setReadState p r) where
  state := by rw [Part.setReadState_route]
  upload := Part.setReadState_upload ..
  store := Part.setReadState_store ..
  strangers := Part.setReadState_strangers ..

theorem offerAlert_sameItems (a : Alert) (m : Part) : SameItems m (m.offerAlert a) := by
  obtain ⟨_, _, _, heq, _, _⟩ := m.offerAlert_cases a
  rw [heq]
  exact ⟨rfl, rfl, rfl, rfl⟩

theorem reportDeferred_sameItems (m : Part) (e : Nat × Member) : SameItems m (m.reportDeferred e) :=
  .trans (n := m.onMember e.1 (fun r => { r with deferred := 0 })) ⟨rfl, rfl, rfl, rfl⟩ (offerAlert_sameItems ..)

theorem reportStop_sameItems (stop : Nat) (m : Part) : SameItems m (m.reportStop stop) :=
  sameItems_foldl reportDeferred_sameItems ..

theorem tamperOutcome_sameItems (p : Nat) (r : Member) (inds : IndicatorSet) (m : Part) :
    SameItems m (m.tamperOutcome p r inds).part := by
  unfold Part.tamperOutcome
  dsimp only
  split_ifs
  · exact ⟨rfl, rfl, rfl, rfl⟩
  · exact .trans (n := m.onMember p _) ⟨rfl, rfl, rfl, rfl⟩ (offerAlert_sameItems ..)

theorem foldl_closing_sameItems {g : Closing → Nat × Member → Closing} (hg : ∀ c e, SameItems c.part (g c e).part)
    (l : List (Nat × Member)) (c : Closing) : SameItems c.part (l.foldl g c).part :=
  List.foldlRecOn (motive := fun x : Closing => SameItems c.part x.part) l g (.refl c.part)
    fun _ hc e _ => hc.trans (hg _ e)

theorem dropMember_sameItems (c : Closing) (e : Nat × Member) : SameItems c.part (dropMember c e).part :=
  setReadState_sameItems ..

theorem carryMember_sameItems (c : Closing) (e : Nat × Member) : SameItems c.part (carryMember c e).part := by
  unfold carryMember
  split_ifs
  · exact (setReadState_sameItems e.1 .carried c.part).trans ⟨rfl, rfl, rfl, rfl⟩
  · exact setReadState_sameItems ..

theorem disposeMembers_sameItems (stop : Nat) (drop : Bool) (m : Part) : SameItems m (m.disposeMembers stop drop).part := by
  have hcarry := foldl_closing_sameItems carryMember_sameItems (m.unreadOf stop) ⟨m, 0, 0⟩
  unfold Part.disposeMembers
  dsimp only
  split_ifs
  · exact foldl_closing_sameItems dropMember_sameItems _ ⟨m, 0, 0⟩
  · exact hcarry
  · exact hcarry.trans ⟨rfl, rfl, rfl, rfl⟩

theorem closeStop_sameItems (r : Stop) (drop : Bool) (m : Part) : SameItems m (m.closeStop r drop).part := by
  have hshut : SameItems m ((m.disposeMembers r.number drop).part.onStops (Stops.shut r)) :=
    (disposeMembers_sameItems r.number drop m).trans ⟨rfl, rfl, rfl, rfl⟩
  exact hshut.trans (reportStop_sameItems ..)

theorem closeLingering_sameItems (m : Part) : SameItems m m.closeLingering :=
  sameItems_foldl (fun m r => closeStop_sameItems r false m) ..

theorem endRoute_sameItems (m : Part) : SameItems m m.endRoute :=
  .trans (n := { m with intake := m.intake.void, stops := m.stops.endRoute, dir := m.dir.giveUp }) ⟨rfl, rfl, rfl, rfl⟩
    (sameItems_foldl reportDeferred_sameItems ..)

theorem skipHead_sameItems (e : SweepEntry) (rest : List SweepEntry) (m : Part) : SameItems m (m.skipHead e rest) := by
  have hstops : SameItems m (m.onStops (fun u => { u with sweep := rest })) := ⟨rfl, rfl, rfl, rfl⟩
  obtain ⟨_, heq⟩ | ⟨p, r, _, heq⟩ := skipHead_cases e rest m <;> rw [heq]
  · exact hstops
  · exact hstops.trans (setReadState_sameItems ..)

/-! Before the upload order stands -/

/-- Every reading record and every stranger is FRESH, and no record has a batch number (R53, R131). -/
structure Part.AllFresh (m : Part) : Prop where
  store : ∀ r ∈ m.store, r.upload = .fresh ∧ r.batch = none
  entries : ∀ e ∈ m.strangers.entries, e.2.upload = .fresh

/-- A hearing's work on what an order will list: no order or batch is touched, what is new is FRESH, and the stranger table
keeps its canonical form. -/
structure Hears (m n : Part) : Prop where
  upload : n.upload = m.upload
  fresh : m.AllFresh → n.AllFresh
  canonical : Table.Canonical m.strangers.entries → Table.Canonical n.strangers.entries

theorem SameItems.hears {m n : Part} (h : SameItems m n) : Hears m n where
  upload := h.upload
  fresh hm := ⟨by rw [h.store]; exact hm.store, by rw [h.strangers]; exact hm.entries⟩
  canonical hm := by rwa [h.strangers]

theorem Hears.trans {m n k : Part} (h : Hears m n) (h' : Hears n k) : Hears m k where
  upload := h'.upload.trans h.upload
  fresh hm := h'.fresh (h.fresh hm)
  canonical hm := h'.canonical (h.canonical hm)

/-- A stranger's telegram refreshes an entry, or writes a FRESH one (R134, R135, R138). -/
theorem hearStranger_hears (q : Queued) (lead : Option Nat) (m : Part) : Hears m (m.hearStranger q lead) := by
  have written : ∀ (p : Nat) (trees : Vector Tree 64) (count : Nat), Hears m { m with
      strangers := ⟨Table.put p (.ofQueued q lead) m.strangers.entries, trees, count⟩ } := fun p trees count =>
    { upload := rfl
      fresh := fun hm => ⟨hm.store, fun e he => by
        obtain rfl | he := Table.mem_put he
        · rfl
        · exact hm.entries e he⟩
      canonical := fun hm => hm.put .. }
  unfold Part.hearStranger
  split
  · next x _ =>
    refine ⟨rfl, fun hm => ⟨hm.store, List.forall_mem_map.mpr fun e he => ?_⟩, fun hm =>
      hm.modify x.1 (fun e => e.refreshed q.telegram.counter q.telegram.signal)⟩
    split_ifs <;> exact hm.entries e he
  · split
    · exact written ..
    · exact (written ..).trans (sameItems_of_sameBlocks (.setShared ..)).hears

theorem firstHearing_hears (p : Nat) (r : Member) (q : Queued) (m : Part) : Hears m (m.firstHearing p r q) := by
  have recorded : ∀ (n : Part) (j : Judgement) (fired : ClassSet), Hears n { n with
      store := n.store ++ [Record.new n.store.length r q (atWidth r.width q.telegram.counter) m.stops.lead j fired] } :=
    fun n j fired =>
      { upload := rfl
        fresh := fun hn => ⟨List.forall_mem_append.mpr ⟨hn.store, by simp [Record.new]⟩, hn.entries⟩
        canonical := id }
  have attended : ∀ (n : Part) (f : Member → Member) (g : Stops → Stops),
      Hears n (((n.setReadState p .read).onMember p f).onStops g) := fun n f g =>
    ((setReadState_sameItems p .read n).trans
      (k := ((n.setReadState p .read).onMember p f).onStops g) ⟨rfl, rfl, rfl, rfl⟩).hears
  unfold Part.firstHearing
  exact ((tamperOutcome_sameItems p r _ m).hears.trans (recorded ..)).trans (attended ..)

/-- A later hearing leaves the upload state and the batch number of the record (R55). -/
theorem laterHearing_hears (p : Nat) (r : Member) (index : Nat) (e : Record) (q : Queued) (m : Part) :
    Hears m (m.laterHearing p r index e q) := by
  unfold Part.laterHearing
  refine (tamperOutcome_sameItems p r _ m).hears.trans ⟨rfl, fun hm => ⟨fun x hx => ?_, hm.entries⟩, id⟩
  obtain ⟨j, hj⟩ := List.getElem?_of_mem hx
  rw [List.getElem?_modify] at hj
  obtain ⟨y, hy, rfl⟩ := Option.map_eq_some_iff.mp hj
  have hfresh := hm.store y (List.mem_of_getElem? hy)
  split_ifs <;> exact hfresh

theorem hear_hears (q : Queued) (m : Part) : Hears m (m.hear q) := by
  unfold Part.hear
  split
  · exact hearStranger_hears ..
  · split_ifs
    · split
      · exact (SameItems.refl m).hears
      · split
        · exact (SameItems.refl m).hears
        · exact laterHearing_hears ..
    · exact firstHearing_hears ..

theorem completeTelegram_hears (e : Evaluation) (m : Part) : Hears m (m.completeTelegram e) := by
  have freed : ∀ (n : Part) (k : Intake), Hears n { n with intake := k } := fun _ _ => ⟨rfl, fun h => ⟨h.1, h.2⟩, id⟩
  unfold Part.completeTelegram
  dsimp only
  split_ifs
  · exact (freed ..).trans (freed ..)
  · exact ((freed ..).trans (hear_hears ..)).trans (freed ..)

/-! What an event makes of the upload engine -/

/-- The route states in which no upload order stands (R158, R176). -/
def orderless (q : RouteState) : Prop := q ≠ .uploading ∧ q ≠ .done

/-- All an effect can make of the upload order, the outstanding batches, the reading records, the strangers and the route state. -/
inductive UploadEffect : Part → Part → Prop
  | same {m n : Part} (h : SameItems m n) : UploadEffect m n
  | orderless {m n : Part} (h : Hears m n) (hfrom : orderless m.route.state) (hto : orderless n.route.state) :
      UploadEffect m n
  | emptied {m n : Part} (hstate : n.route.state = .empty) (hstore : n.store = []) (hentries : n.strangers.entries = [])
      (hupload : n.upload = ⟨none, [], 0⟩ ∨ n.upload = ⟨none, [], m.upload.counter⟩) : UploadEffect m n
  | beginUpload {m : Part} (hstate : m.route.state = .returned) :
      UploadEffect m (m.formOrder.moveRoute m.formOrder.uploadState)
  | nextBatch {m : Part} (hstate : m.route.state = .uploading)
      (hroom : m.upload.batches.length < 2) (hfresh : m.freshItems ≠ []) :
      UploadEffect m (m.formBatch m.upload.newNumber (m.freshItems.take 64))
  | returned {m n : Part} {l : List Batch} (h : SameItems m n) (hl : l.Sublist m.upload.batches) :
      UploadEffect m (l.foldl (fun m b => m.returnBatch b) n)
  | confirmBatch {m : Part} {b : Batch} (hstate : m.route.state = .uploading) (hb : b ∈ m.upload.batches) :
      UploadEffect m (m.confirmItems b).finishUpload
  | endSecond {m : Part} : UploadEffect m m.endSecond

theorem Routine.uploadEffect {m n : Part} (h : Routine m n) : UploadEffect m n := by
  cases h
  case none | openStop | startLinger | acknowledge | setPass | clearTamper | queueTelegram | clearVolatile =>
    exact .same ⟨rfl, rfl, rfl, rfl⟩
  case closeStop | expireLinger => exact .same (closeStop_sameItems ..)
  case nextBatch hstate hroom hfresh => exact .nextBatch hstate hroom hfresh
  case returnBatch b hbatch =>
    exact .returned (l := [b]) (.refl m) (List.singleton_sublist.mpr (Upload.batch_eq_some hbatch).1)
  case returnBatches => exact .returned (.refl m) (.refl _)
  case warmStart =>
    have hclosed : SameItems m m.clearVolatile.closeLingering :=
      .trans (n := m.clearVolatile) ⟨rfl, rfl, rfl, rfl⟩ (closeLingering_sameItems _)
    exact .returned hclosed (by rw [hclosed.upload])

theorem orderless_of_eq {q r : RouteState} (h : q = r) (hr : r ≠ .uploading ∧ r ≠ .done := by decide) : orderless q :=
  h ▸ hr

/-- Every effect is one of these. -/
theorem Effect.uploadEffect {m n : Part} (h : Effect m n) : UploadEffect m n := by
  cases h
  case routine h => exact h.uploadEffect
  case loadStop | loadMember | loadProfile | loadClass => exact .same ⟨rfl, rfl, rfl, rfl⟩
  case beginLoad hstate | finishLoad hstate _ | startRoute hstate =>
    exact .orderless ⟨rfl, fun h => ⟨h.1, h.2⟩, id⟩ (orderless_of_eq hstate) ⟨nofun, nofun⟩
  case clearRoute => exact .emptied rfl rfl rfl (.inr rfl)
  case coldStart => exact .emptied rfl rfl rfl (.inl rfl)
  case beginUpload hstate => exact .beginUpload hstate
  case endRoute hstate _ =>
    have hended := (endRoute_sameItems m).hears
    exact .orderless ⟨hended.upload, fun h => ⟨(hended.fresh h).1, (hended.fresh h).2⟩, hended.canonical⟩
      (orderless_of_eq hstate) ⟨nofun, nofun⟩
  case skipSweep => exact .same (skipHead_sameItems ..)
  case confirmBatch hstate hbatch => exact .confirmBatch hstate (Upload.batch_eq_some hbatch).1
  case completeTelegram e _ =>
    by_cases hrunning : m.route.state = .running
    · have hroute : (m.completeTelegram e).route.state = .running := by rw [Part.completeTelegram_route, hrunning]
      exact .orderless (completeTelegram_hears ..) (orderless_of_eq hrunning) (orderless_of_eq hroute)
    · rw [completeTelegram_of_dropped (.inr hrunning)]
      exact .same ⟨rfl, rfl, rfl, rfl⟩
  case endSecond => exact .endSecond

end Sys2Proof.Machine
end

section
/-! SUPPORT. The outstanding batches (R163, R164, R166): what every event makes of the batch table and its numbers. -/

namespace Sys2Proof.Machine

/-! The batch table -/

/-- A batch's number is 1 to 65,535, its 1 to 64 items stand in ascending order, and its timer runs with 1 to 20 seconds (R163). -/
structure Batch.Sound (b : Batch) : Prop where
  number_pos : 1 ≤ b.number
  number_le : b.number ≤ 65535
  items_pos : 1 ≤ b.items.length
  items_le : b.items.length ≤ 64
  ascending : b.items.Pairwise (· < ·)
  left : 1 ≤ b.timer.left ∧ b.timer.left ≤ 20

/-- At most two sound batches, under different numbers, and a counter within its range (R163, R164). -/
structure Upload.Sound (u : Upload) : Prop where
  places : u.batches.length ≤ 2
  counter : u.counter ≤ 65535
  numbers : (u.batches.map Batch.number).Nodup
  batches : ∀ b ∈ u.batches, b.Sound

theorem Batch.sound_iff {b : Batch} : b.Sound ↔ 1 ≤ b.number ∧ b.number ≤ 65535 ∧ 1 ≤ b.items.length ∧
    b.items.length ≤ 64 ∧ b.items.Pairwise (· < ·) ∧ 1 ≤ b.timer.left ∧ b.timer.left ≤ 20 :=
  ⟨fun ⟨hpos, hle, hsome, hfew, hasc, hleft⟩ => ⟨hpos, hle, hsome, hfew, hasc, hleft⟩,
    fun ⟨hpos, hle, hsome, hfew, hasc, hleft⟩ => ⟨hpos, hle, hsome, hfew, hasc, hleft⟩⟩

theorem Part.batchesTrue_iff {m : Part} : m.BatchesTrue ↔ m.upload.Sound := by
  simp only [Part.BatchesTrue, ← Batch.sound_iff]
  exact ⟨fun ⟨hplaces, hcounter, hnumbers, hbatches⟩ => ⟨hplaces, hcounter, hnumbers, hbatches⟩,
    fun ⟨hplaces, hcounter, hnumbers, hbatches⟩ => ⟨hplaces, hcounter, hnumbers, hbatches⟩⟩

/-- Batches that leave the table leave it sound. -/
theorem Upload.Sound.of_sublist {u v : Upload} (h : u.Sound) (hbatches : v.batches.Sublist u.batches)
    (hcounter : v.counter = u.counter) : v.Sound where
  places := hbatches.length_le.trans h.places
  counter := hcounter.trans_le h.counter
  numbers := h.numbers.sublist (hbatches.map _)
  batches b hb := h.batches b (hbatches.subset hb)

theorem Upload.Sound.of_no_batch {u : Upload} (hbatches : u.batches = []) (hcounter : u.counter ≤ 65535) : u.Sound := by
  refine ⟨?_, hcounter, ?_, ?_⟩ <;> simp [hbatches]

/-! The next number (R164) -/

theorem nextNumber_eq (n : Nat) : nextNumber n = if 65535 ≤ n then 1 else n + 1 := rfl

theorem nextNumber_range (n : Nat) : 1 ≤ nextNumber n ∧ nextNumber n ≤ 65535 := by
  rw [nextNumber_eq]
  split_ifs <;> omega

theorem nextNumber_ne (n : Nat) : nextNumber n ≠ n := by
  rw [nextNumber_eq]
  split_ifs <;> omega

theorem Upload.newNumber_range (u : Upload) : 1 ≤ u.newNumber ∧ u.newNumber ≤ 65535 := by
  rw [Upload.newNumber_eq]
  split_ifs <;> exact nextNumber_range _

/-- With one batch outstanding at most, no batch has the next number. -/
theorem Upload.newNumber_ne {u : Upload} (hroom : u.batches.length < 2) {b : Batch} (hb : b ∈ u.batches) :
    b.number ≠ u.newNumber := by
  rw [Upload.newNumber_eq]
  split_ifs with hother
  · obtain ⟨c, hc, hnumber⟩ := hother
    obtain ⟨only, honly⟩ := List.length_eq_one_iff.mp (show u.batches.length = 1 by
      have := List.length_pos_of_mem hb
      omega)
    rw [honly, List.mem_singleton] at hb hc
    rw [hb, ← hc, hnumber]
    exact (nextNumber_ne _).symm
  · exact fun heq => hother ⟨b, hb, heq⟩

theorem Part.freshItems_ascending (m : Part) : m.freshItems.Pairwise (· < ·) := by
  rw [Part.freshItems_eq]
  exact List.pairwise_lt_range.filter _

/-- A batch is formed under the next number (R164, R166). -/
theorem Upload.Sound.formBatch {m : Part} (h : m.upload.Sound) (hroom : m.upload.batches.length < 2)
    (hfresh : m.freshItems ≠ []) : (m.formBatch m.upload.newNumber (m.freshItems.take 64)).upload.Sound := by
  have hbatches : (m.formBatch m.upload.newNumber (m.freshItems.take 64)).upload.batches =
      m.upload.batches ++ [⟨m.upload.newNumber, m.freshItems.take 64, Timer.start 20⟩] :=
    congrArg (· ++ [_]) (setItems_moves ..).batches
  obtain ⟨hpos, hle⟩ := m.upload.newNumber_range
  have hformed : Batch.Sound ⟨m.upload.newNumber, m.freshItems.take 64, Timer.start 20⟩ :=
    { number_pos := hpos
      number_le := hle
      items_pos := List.length_pos_iff.mpr (by simpa using hfresh)
      items_le := List.length_take_le ..
      ascending := m.freshItems_ascending.sublist (List.take_sublist ..)
      left := by simp }
  refine ⟨?_, hle, ?_, ?_⟩ <;> rw [hbatches]
  · rw [List.length_append]
    exact hroom
  · rw [List.map_append, List.nodup_append]
    refine ⟨h.numbers, List.nodup_singleton _, ?_⟩
    intro a ha c hc heq
    obtain ⟨b, hb, rfl⟩ := List.mem_map.mp ha
    exact Upload.newNumber_ne hroom hb (heq.trans (List.mem_singleton.mp hc))
  · exact List.forall_mem_append.mpr ⟨h.batches, by simpa using hformed⟩

/-! Effects -/

/-- Items moved and their batch retired: the batch table (R163). -/
theorem retired_batches (b : Batch) (u : UploadState) (batch : Option Nat) (m : Part) :
    ((m.setItems u batch b.items).retire b.number).upload.batches =
      m.upload.batches.filter (fun x => x.number != b.number) := (retired_moves b u batch m).2.2

theorem Upload.Sound.retired {m : Part} (h : m.upload.Sound) (b : Batch) (u : UploadState) (batch : Option Nat) :
    ((m.setItems u batch b.items).retire b.number).upload.Sound :=
  h.of_sublist (by rw [retired_batches]; exact List.filter_sublist) (setItems_moves ..).counter

theorem finishUpload_upload (m : Part) : m.finishUpload.upload = m.upload := by
  obtain h | h := finishUpload_cases m <;> rw [h]
  exact Part.moveRoute_upload ..

/-- A batch's timer runs on with 1 to 20 seconds (R167). -/
theorem Batch.Sound.tick {b : Batch} (h : b.Sound) : b.tick.Sound :=
  { h with left := b.timer.tick_range 20 h.left }

/-- Every event keeps the batch table sound. -/
theorem UploadEffect.sound {m n : Part} (h : UploadEffect m n) (hm : m.upload.Sound) : n.upload.Sound := by
  cases h
  case same h => exact h.upload.symm ▸ hm
  case orderless _ h _ => exact h.upload.symm ▸ hm
  case emptied hupload =>
    obtain h | h := hupload <;> rw [h]
    · exact .of_no_batch rfl (Nat.zero_le _)
    · exact .of_no_batch rfl hm.counter
  case beginUpload => exact hm.of_sublist (.refl _) rfl
  case nextBatch hroom hfresh => exact hm.formBatch hroom hfresh
  case returned n l h _ =>
    exact List.foldlRecOn (motive := fun x : Part => x.upload.Sound) l _ (h.upload.symm ▸ hm)
      fun _ hx b _ => hx.retired b .fresh none
  case confirmBatch b _ _ =>
    rw [finishUpload_upload]
    exact hm.retired b .confirmed (some b.number)
  case endSecond =>
    have hnumbers : m.endSecond.upload.batches.map Batch.number = m.upload.batches.map Batch.number := List.map_map ..
    exact ⟨(List.length_map ..).trans_le hm.places, hm.counter, hnumbers.symm ▸ hm.numbers,
      List.forall_mem_map.mpr fun b hb => (hm.batches b hb).tick⟩

/-! The stranger table -/

/-- Items moved leave every stranger at its position (R162). -/
theorem setItems_canonical {m : Part} (h : Table.Canonical m.strangers.entries) (u : UploadState) (batch : Option Nat)
    (numbers : List Nat) : Table.Canonical (m.setItems u batch numbers).strangers.entries := by
  obtain ⟨_, _, t, heq, _, hplaces, _⟩ := setItems_touches u batch numbers m
  have hkeys : t.entries.map Prod.fst = m.strangers.entries.map Prod.fst := by
    simpa [Strangers.places, Function.comp_def] using congrArg (List.map Prod.fst) hplaces
  rw [heq, Table.Canonical, hkeys]
  exact h

/-- Every event keeps the stranger table in its canonical form. -/
theorem UploadEffect.canonical {m n : Part} (h : UploadEffect m n) (hm : Table.Canonical m.strangers.entries) :
    Table.Canonical n.strangers.entries := by
  cases h
  case same h => exact h.strangers.symm ▸ hm
  case orderless _ h _ => exact h.canonical hm
  case emptied hentries _ => exact hentries.symm ▸ Table.canonical_nil
  case beginUpload => exact hm.mapValues (fun e => { e with upload := .fresh })
  case nextBatch => exact setItems_canonical hm ..
  case returned n l h _ =>
    exact List.foldlRecOn (motive := fun x : Part => Table.Canonical x.strangers.entries) l _ (h.strangers.symm ▸ hm)
      fun _ hx b _ => setItems_canonical hx ..
  case confirmBatch b _ _ =>
    have hitems := setItems_canonical hm .confirmed (some b.number) b.items
    obtain h | h := finishUpload_cases (m.confirmItems b) <;> rw [h] <;> exact hitems
  case endSecond => exact hm

end Sys2Proof.Machine
end

section
/-! SUPPORT. The upload order (R158, R162, R163, R176): the items and the batches that hold them, as every event keeps them. -/

namespace Sys2Proof.Machine

/-! The upload state of an item by its number -/

/-- The upload state of the item with a number (R162). -/
def Part.stateOf (m : Part) (k : Nat) : Option UploadState := m.upload.items[k]?.map m.itemState

theorem Part.stateOf_eq_none_iff {m : Part} {k : Nat} : m.stateOf k = none ↔ m.upload.items.length ≤ k := by
  rw [Part.stateOf, Option.map_eq_none_iff, List.getElem?_eq_none_iff]

theorem Part.forall_mem_items {m : Part} {P : UploadState → Prop} :
    (∀ x ∈ m.upload.items, P (m.itemState x)) ↔ ∀ k s, m.stateOf k = some s → P s := by
  simp only [Part.stateOf, Option.map_eq_some_iff, List.mem_iff_getElem?]
  exact ⟨fun h k s ⟨x, hx, hs⟩ => hs ▸ h x ⟨k, hx⟩, fun h x ⟨k, hx⟩ => h k _ ⟨x, hx, rfl⟩⟩

theorem Part.allConfirmed_iff_stateOf {m : Part} :
    m.allConfirmed = true ↔ ∀ k s, m.stateOf k = some s → s = .confirmed := by
  rw [← Part.forall_mem_items, Part.allConfirmed, List.all_eq_true]
  simp only [beq_iff_eq]

/-- The FRESH items by number (R166). -/
theorem Part.mem_freshItems {m : Part} {k : Nat} : k ∈ m.freshItems ↔ m.stateOf k = some .fresh := by
  rw [Part.freshItems_eq, List.mem_filter, List.mem_range, beq_iff_eq, ← Part.stateOf]
  refine ⟨And.right, fun h => ⟨not_le.mp fun hle => ?_, h⟩⟩
  rw [Part.stateOf_eq_none_iff.mpr hle] at h
  cases h

/-! Items and batches -/

/-- The items of the order name records of their own, the outstanding batches hold the BATCHED items, each once, and a reading
record has its batch's number while BATCHED and none while FRESH (R158, R162, R163). -/
structure Part.ItemsAgree (m : Part) : Prop where
  distinct : ∀ (i j : Nat) (x : UploadItem), x.Recorded →
    m.upload.items[i]? = some x → m.upload.items[j]? = some x → i = j
  records : ∀ i, UploadItem.reading i ∈ m.upload.items → i < m.store.length
  entries : ∀ p, UploadItem.stranger p ∈ m.upload.items → Table.find m.strangers.entries p ≠ none
  nodup : (m.upload.batches.flatMap Batch.items).Nodup
  batched : ∀ k, m.stateOf k = some .batched ↔ ∃ b ∈ m.upload.batches, k ∈ b.items
  numbers : ∀ (k i : Nat) (r : Record), m.upload.items[k]? = some (.reading i) → m.store[i]? = some r →
    (r.upload = .fresh → r.batch = none) ∧ ∀ b ∈ m.upload.batches, k ∈ b.items → r.batch = some b.number

/-- The order and the batches stand in their route states (R158, R176). -/
structure Part.OrderFits (m : Part) : Prop where
  stands : m.upload.order.isSome = true ↔ m.route.state = .uploading ∨ m.route.state = .done
  batches : m.route.state ≠ .uploading → m.upload.batches = []
  fresh : m.upload.order = none → m.AllFresh
  uploading : m.route.state = .uploading → m.allConfirmed = false
  done : m.route.state = .done → m.allConfirmed = true

theorem UploadItem.recorded_iff (x : UploadItem) : x.Recorded ↔ ∀ k u, x ≠ .miss k u := by
  cases x <;> simp [UploadItem.Recorded]

/-- The items of the outstanding batches are the BATCHED ones, read item by item (R163). -/
theorem Part.batched_iff {m : Part} : (∀ k, m.stateOf k = some .batched ↔ ∃ b ∈ m.upload.batches, k ∈ b.items) ↔
    (∀ b ∈ m.upload.batches, ∀ n ∈ b.items, n < m.upload.items.length) ∧
    ∀ (n : Nat) (x : UploadItem), m.upload.items[n]? = some x →
      (m.itemState x = .batched ↔ ∃ b ∈ m.upload.batches, n ∈ b.items) := by
  constructor
  · refine fun h => ⟨fun b hb n hn => not_le.mp fun hle => ?_, fun n x hx => ?_⟩
    · have hbatched := (h n).mpr ⟨b, hb, hn⟩
      rw [Part.stateOf_eq_none_iff.mpr hle] at hbatched
      cases hbatched
    · rw [← h, Part.stateOf, hx, Option.map_some, Option.some_inj]
  · rintro ⟨hwithin, hbatched⟩ k
    cases hx : m.upload.items[k]? with
    | none =>
      have hle := List.getElem?_eq_none_iff.mp hx
      rw [Part.stateOf, hx]
      exact ⟨nofun, fun ⟨b, hb, hk⟩ => absurd (hwithin b hb k hk) (not_lt.mpr hle)⟩
    | some x => rw [← hbatched k x hx, Part.stateOf, hx, Option.map_some, Option.some_inj]

theorem Part.orderTrue_iff {m : Part} : m.OrderTrue ↔ m.ItemsAgree ∧ m.OrderFits := by
  have hunconfirmed : m.allConfirmed = false ↔ ∃ x ∈ m.upload.items, m.itemState x ≠ .confirmed := by
    simp [Part.allConfirmed]
  have hconfirmed : m.allConfirmed = true ↔ ∀ x ∈ m.upload.items, m.itemState x = .confirmed := by
    simp [Part.allConfirmed]
  constructor
  · rintro ⟨hstands, hbatches, hfresh, hdistinct, hrecords, hentries, hnodup, hwithin, hbatched, hnumbers, huploading, hdone⟩
    exact ⟨⟨fun i j x hx => hdistinct i j x (x.recorded_iff.mp hx), hrecords, hentries, hnodup,
        Part.batched_iff.mpr ⟨hwithin, hbatched⟩, hnumbers⟩,
      ⟨hstands, hbatches, fun h => ⟨(hfresh h).1, (hfresh h).2⟩, fun h => hunconfirmed.mpr (huploading h),
        fun h => hconfirmed.mpr (hdone h)⟩⟩
  · rintro ⟨⟨hdistinct, hrecords, hentries, hnodup, hbatched, hnumbers⟩, hstands, hbatches, hfresh, huploading, hdone⟩
    obtain ⟨hwithin, hbatched⟩ := Part.batched_iff.mp hbatched
    exact ⟨hstands, hbatches, fun h => ⟨(hfresh h).store, (hfresh h).entries⟩,
      fun i j x hx => hdistinct i j x (x.recorded_iff.mpr hx), hrecords, hentries, hnodup, hwithin, hbatched, hnumbers,
      fun h => hunconfirmed.mp (huploading h), fun h => hconfirmed.mp (hdone h)⟩

/-- A list of numbers names a recorded item when it holds the one number that does. -/
theorem Part.ItemsAgree.named_iff {m : Part} (h : m.ItemsAgree) {x : UploadItem} (hx : x.Recorded) {k : Nat}
    (hk : m.upload.items[k]? = some x) (numbers : List Nat) :
    (∃ l ∈ numbers, m.upload.items[l]? = some x) ↔ k ∈ numbers :=
  ⟨fun ⟨l, hl, hlx⟩ => h.distinct l k x hx hlx hk ▸ hl, fun hmem => ⟨k, hmem, hk⟩⟩

/-! Items moved -/

section Moves

variable {m n : Part} {numbers : List Nat} {u : UploadState} {batch : Option Nat}

/-- A move gives the items with its numbers its upload state, and leaves the others theirs (R162). -/
theorem MovesItems.stateOf (hmoved : MovesItems m n numbers u batch) (h : m.ItemsAgree) (k : Nat) :
    n.stateOf k = (m.stateOf k).map (fun s => if k ∈ numbers then u else s) := by
  rw [Part.stateOf, Part.stateOf, hmoved.items]
  cases hx : m.upload.items[k]? with
  | none => rfl
  | some x =>
    have hnamed : x.Recorded → ((∃ l ∈ numbers, m.upload.items[l]? = some x) ↔ k ∈ numbers) := fun hrecorded =>
      h.named_iff hrecorded hx numbers
    simp only [Option.map_some, Option.some_inj]
    cases x with
    | miss key s => split_ifs <;> rfl
    | reading i =>
      have hkept : (if k ∈ numbers then (UploadItem.reading i).marked u else .reading i) = .reading i := ite_self _
      have hlt := h.records i (List.mem_of_getElem? hx)
      rw [hkept, Part.itemState, Part.itemState, hmoved.store, List.getElem?_eq_getElem hlt]
      simp only [hnamed trivial, Option.map_some, Option.getD_some]
      split_ifs <;> rfl
    | stranger p =>
      have hkept : (if k ∈ numbers then (UploadItem.stranger p).marked u else .stranger p) = .stranger p := ite_self _
      obtain ⟨e, he⟩ := Option.ne_none_iff_exists'.mp (h.entries p (List.mem_of_getElem? hx))
      rw [hkept, Part.itemState, Part.itemState, hmoved.entries, he]
      simp only [hnamed trivial, Option.map_some, Option.getD_some]
      split_ifs <;> rfl

/-- Items moved to another upload state than CONFIRMED leave some item not CONFIRMED, where one was. -/
theorem MovesItems.unconfirmed (hmoved : MovesItems m n numbers u batch) (h : m.ItemsAgree) (hu : u ≠ .confirmed)
    (hm : m.allConfirmed = false) : n.allConfirmed = false := by
  rw [← Bool.not_eq_true] at hm ⊢
  refine mt (fun hall => Part.allConfirmed_iff_stateOf.mpr fun k s hs => ?_) hm
  have hstate := Part.allConfirmed_iff_stateOf.mp hall k (if k ∈ numbers then u else s) (by rw [hmoved.stateOf h, hs]; rfl)
  split_ifs at hstate
  · exact absurd hstate hu
  · exact hstate

theorem MovesItems.mem_items (hmoved : MovesItems m n numbers u batch) {x : UploadItem} (hx : x.Recorded) :
    x ∈ n.upload.items ↔ x ∈ m.upload.items := by
  simp only [List.mem_iff_getElem?, hmoved.recorded_iff hx]

/-- Items moved under a new batch table that holds them exactly when they became BATCHED, each under its batch's number. -/
theorem MovesItems.itemsAgree (hmoved : MovesItems m n numbers u batch) (h : m.ItemsAgree) (hfresh : u = .fresh → batch = none)
    {batches : List Batch} (counter : Nat) (hnodup : (batches.flatMap Batch.items).Nodup)
    (hbatched : ∀ k, (∃ b ∈ batches, k ∈ b.items) ↔
      if k ∈ numbers then u = .batched else ∃ b ∈ m.upload.batches, k ∈ b.items)
    (hwithin : ∀ k ∈ numbers, m.stateOf k ≠ none)
    (hnumber : ∀ b ∈ batches, ∀ k ∈ b.items, if k ∈ numbers then batch = some b.number else b ∈ m.upload.batches) :
    Part.ItemsAgree { n with upload := { n.upload with batches := batches, counter := counter } } where
  distinct i j x hx hi hj := h.distinct i j x hx ((hmoved.recorded_iff hx i).mp hi) ((hmoved.recorded_iff hx j).mp hj)
  records i hi := by
    have hlt := h.records i ((hmoved.mem_items (x := .reading i) trivial).mp hi)
    have hrecord := hmoved.store i
    rw [List.getElem?_eq_getElem hlt] at hrecord
    exact (List.getElem?_eq_some_iff.mp hrecord).1
  entries p hp := by
    rw [hmoved.entries, Ne, Option.map_eq_none_iff]
    exact h.entries p ((hmoved.mem_items (x := .stranger p) trivial).mp hp)
  nodup := hnodup
  batched k := by
    rw [hbatched]
    refine (Iff.of_eq (congrArg (· = _) (hmoved.stateOf h k))).trans ?_
    split_ifs with hk
    · obtain ⟨s, hs⟩ := Option.ne_none_iff_exists'.mp (hwithin k hk)
      simp [hs]
    · rw [← h.batched, Option.map_id']
  numbers k i r hk hr := by
    have hitem := (hmoved.recorded_iff (x := .reading i) trivial k).mp hk
    obtain ⟨old, hold, hrecord⟩ := Option.map_eq_some_iff.mp ((hmoved.store i).symm.trans hr)
    simp only [h.named_iff (x := .reading i) trivial hitem numbers] at hrecord
    obtain ⟨hnone, hsome⟩ := h.numbers k i old hitem hold
    subst hrecord
    refine ⟨fun hr => ?_, fun b hb hkb => ?_⟩
    · split_ifs at hr ⊢
      · exact hfresh hr
      · exact hnone hr
    · have hb := hnumber b hb k hkb
      split_ifs at hb ⊢
      · exact hb
      · exact hsome b hb hkb

end Moves

end Sys2Proof.Machine
end

section
/-! SUPPORT. What every event makes of the upload order and the outstanding batches (R35, R158, R162 to R176). -/

namespace Sys2Proof.Machine

/-! Parts that differ in nothing an order reads, and parts without an order -/

theorem SameItems.orderTrue {m n : Part} (h : SameItems m n) (hm : m.OrderTrue) : n.OrderTrue := by
  simp only [Part.OrderTrue, Part.itemState, h.state, h.upload, h.store, h.strangers]
  exact hm

/-- Without an order there is no batch, and every record and stranger is FRESH (R158). -/
theorem orderTrue_of_no_order {m : Part} (hstate : orderless m.route.state) (horder : m.upload.order = none)
    (hbatches : m.upload.batches = []) (hfresh : m.AllFresh) : m.OrderTrue := by
  obtain ⟨huploading, hdone⟩ := hstate
  have hitems : m.upload.items = [] := by rw [Upload.items, horder]; rfl
  refine Part.orderTrue_iff.mpr ⟨⟨?_, ?_, ?_, ?_, ?_, ?_⟩, ⟨?_, fun _ => hbatches, fun _ => hfresh, fun h => absurd h huploading,
    fun h => absurd h hdone⟩⟩
  · simp [hitems]
  · simp [hitems]
  · simp [hitems]
  · simp [hbatches]
  · simp [Part.stateOf, hitems, hbatches]
  · simp [hitems]
  · simp [horder, huploading, hdone]

/-- Where no order stands, hearings leave none standing. -/
theorem Hears.orderTrue {m n : Part} (h : Hears m n) (hfrom : orderless m.route.state) (hto : orderless n.route.state)
    (hm : m.OrderTrue) : n.OrderTrue := by
  obtain ⟨_, hfits⟩ := Part.orderTrue_iff.mp hm
  have horder : m.upload.order = none := by
    rw [← Option.not_isSome_iff_eq_none, hfits.stands, not_or]
    exact hfrom
  exact orderTrue_of_no_order hto (h.upload ▸ horder) (h.upload ▸ hfits.batches hfrom.1) (h.fresh (hfits.fresh horder))

/-- An order that stands in UPLOADING, with an item not CONFIRMED. -/
theorem Part.orderFits_uploading {m : Part} (hstate : m.route.state = .uploading) (horder : m.upload.order.isSome = true)
    (hconfirmed : m.allConfirmed = false) : m.OrderFits where
  stands := by simp [horder, hstate]
  batches h := absurd hstate h
  fresh h := by simp [h] at horder
  uploading _ := hconfirmed
  done h := by simp [hstate] at h

/-- Items and batches agree whatever the route state. -/
theorem Part.ItemsAgree.moveRoute {m : Part} (h : m.ItemsAgree) (q : RouteState) : (m.moveRoute q).ItemsAgree := by
  obtain ⟨hdistinct, hrecords, hentries, hnodup, hbatched, hnumbers⟩ := h
  exact ⟨hdistinct, hrecords, hentries, hnodup, hbatched, hnumbers⟩

/-! BEGIN UPLOAD -/

/-- Two places of a list in which no recorded item stands twice hold the same one only if they are the same. -/
theorem distinct_of_pairwise {l : List UploadItem} (h : l.Pairwise (fun x y => x.Recorded → x ≠ y)) (i j : Nat)
    (x : UploadItem) (hx : x.Recorded) (hi : l[i]? = some x) (hj : l[j]? = some x) : i = j := by
  obtain ⟨hilt, hi⟩ := List.getElem?_eq_some_iff.mp hi
  obtain ⟨hjlt, hj⟩ := List.getElem?_eq_some_iff.mp hj
  rw [List.pairwise_iff_getElem] at h
  obtain hlt | heq | hlt := lt_trichotomy i j
  · exact absurd (hi.trans hj.symm) (h i j hilt hjlt hlt (hi ▸ hx))
  · exact heq
  · exact absurd (hj.trans hi.symm) (h j i hjlt hilt hlt (hj ▸ hx))

theorem mem_formOrder_items {m : Part} {x : UploadItem} (h : x ∈ m.formOrder.upload.items) :
    (∃ i < m.store.length, x = .reading i) ∨ (∃ k, x = .miss k .fresh) ∨ ∃ e ∈ m.strangers.entries, x = .stranger e.1 := by
  obtain (h | h) | h := (List.mem_append.mp h).imp_left List.mem_append.mp
  all_goals obtain ⟨y, hy, rfl⟩ := List.mem_map.mp h
  · exact .inl ⟨y, List.mem_range.mp hy, rfl⟩
  · exact .inr (.inl ⟨_, rfl⟩)
  · exact .inr (.inr ⟨y, hy, rfl⟩)

/-- No reading record and no stranger stands twice in the order formed (R158). -/
theorem formOrder_pairwise {m : Part} (hc : Table.Canonical m.strangers.entries) :
    m.formOrder.upload.items.Pairwise (fun x y => x.Recorded → x ≠ y) := by
  have hreadings : ((List.range m.store.length).map UploadItem.reading).Pairwise (fun x y => x.Recorded → x ≠ y) :=
    List.pairwise_map.mpr (List.nodup_range.imp fun hne _ heq => hne (UploadItem.reading.inj heq))
  have hstrangers : (m.strangers.entries.map (fun e => UploadItem.stranger e.1)).Pairwise (fun x y => x.Recorded → x ≠ y) :=
    List.pairwise_map.mpr ((List.pairwise_map.mp hc).imp fun hlt _ heq => hlt.ne (UploadItem.stranger.inj heq))
  refine List.pairwise_append.mpr ⟨List.pairwise_append.mpr ⟨hreadings, ?_, ?_⟩, hstrangers, ?_⟩
  · exact List.pairwise_map.mpr (List.pairwise_of_forall fun _ _ h => h.elim)
  · intro x hx y hy _ heq
    obtain ⟨_, _, rfl⟩ := List.mem_map.mp hx
    obtain ⟨_, _, rfl⟩ := List.mem_map.mp hy
    cases heq
  · intro x hx y hy hrecorded heq
    obtain ⟨_, _, rfl⟩ := List.mem_map.mp hy
    obtain hx | hx := List.mem_append.mp hx <;> obtain ⟨_, _, rfl⟩ := List.mem_map.mp hx <;> cases heq

/-- Every item of the order formed is FRESH (R158). -/
theorem formOrder_itemState {m : Part} {x : UploadItem} (h : x ∈ m.formOrder.upload.items) :
    m.formOrder.itemState x = .fresh := by
  obtain ⟨i, hi, rfl⟩ | ⟨k, rfl⟩ | ⟨e, _, rfl⟩ := mem_formOrder_items h
  · simp [Part.itemState, Part.formOrder, hi]
  · rfl
  · simp only [Part.itemState, Part.formOrder, Table.find_mapValues]
    cases Table.find m.strangers.entries e.1 <;> rfl

theorem formOrder_itemsAgree {m : Part} (hc : Table.Canonical m.strangers.entries) (hbatches : m.upload.batches = []) :
    m.formOrder.ItemsAgree where
  distinct := distinct_of_pairwise (formOrder_pairwise hc)
  records i hi := by
    obtain ⟨j, hj, heq⟩ | ⟨k, heq⟩ | ⟨e, _, heq⟩ := mem_formOrder_items hi <;> cases heq
    exact hj.trans_eq (List.length_map ..).symm
  entries p hp := by
    obtain ⟨j, _, heq⟩ | ⟨k, heq⟩ | ⟨e, he, heq⟩ := mem_formOrder_items hp <;> cases heq
    simp [Part.formOrder, hc.find_of_mem he]
  nodup := by simp [Part.formOrder, hbatches]
  batched k := by
    have hfresh : ∀ k s, m.formOrder.stateOf k = some s → s = .fresh :=
      Part.forall_mem_items (P := (· = .fresh)).mp fun _ => formOrder_itemState
    have hnone : m.formOrder.upload.batches = [] := hbatches
    rw [hnone]
    exact ⟨fun h => (nomatch hfresh k _ h), fun ⟨_, hb, _⟩ => nomatch hb⟩
  numbers k i r _ hr := by
    obtain ⟨old, _, rfl⟩ := Option.map_eq_some_iff.mp (List.getElem?_map .. ▸ hr)
    simp [Part.formOrder, hbatches]

/-- An order formed in RETURNED stands in UPLOADING, or in DONE when it lists nothing (R35, R176). -/
theorem formOrder_orderTrue {m : Part} (hc : Table.Canonical m.strangers.entries) (hm : m.OrderTrue)
    (hstate : m.route.state = .returned) : (m.formOrder.moveRoute m.formOrder.uploadState).OrderTrue := by
  obtain ⟨_, hfits⟩ := Part.orderTrue_iff.mp hm
  have hbatches := hfits.batches (by simp [hstate])
  refine Part.orderTrue_iff.mpr ⟨(formOrder_itemsAgree hc hbatches).moveRoute _, ?_⟩
  rw [Part.uploadState_eq]
  split_ifs with hitems
  · exact ⟨by simp [Part.formOrder], fun _ => hbatches, nofun, nofun, fun _ => by
      rw [Part.allConfirmed, Part.moveRoute_upload, hitems]
      rfl⟩
  · refine Part.orderFits_uploading rfl rfl ?_
    obtain ⟨x, hx⟩ := List.exists_mem_of_ne_nil _ hitems
    have hfresh : (m.formOrder.moveRoute .uploading).itemState x = .fresh := formOrder_itemState hx
    rw [Part.allConfirmed, List.all_eq_false]
    exact ⟨x, hx, by simp [hfresh]⟩

/-! NEXT BATCH -/

/-- The lowest FRESH items become BATCHED in a batch of their own (R164, R166). -/
theorem formBatch_orderTrue {m : Part} (hm : m.OrderTrue) (hstate : m.route.state = .uploading) :
    (m.formBatch m.upload.newNumber (m.freshItems.take 64)).OrderTrue := by
  obtain ⟨hagree, hfits⟩ := Part.orderTrue_iff.mp hm
  have hmoved := setItems_moves .batched (some m.upload.newNumber) (m.freshItems.take 64) m
  have hfresh : ∀ k ∈ m.freshItems.take 64, m.stateOf k = some .fresh := fun k hk =>
    Part.mem_freshItems.mp (List.mem_of_mem_take hk)
  have hapart : ∀ b ∈ m.upload.batches, ∀ k ∈ b.items, k ∉ m.freshItems.take 64 := by
    intro b hb k hkb hk
    have hbatched := (hagree.batched k).mpr ⟨b, hb, hkb⟩
    rw [hfresh k hk] at hbatched
    cases hbatched
  have hordered := hfits.stands.mpr (.inl hstate)
  refine Part.orderTrue_iff.mpr ⟨?_, Part.orderFits_uploading ?_ (hmoved.order.trans hordered)
    (hmoved.unconfirmed hagree (by decide) (hfits.uploading hstate))⟩
  · rw [Part.formBatch, hmoved.batches]
    refine hmoved.itemsAgree hagree nofun _ ?_ (fun k => ?_) (fun k hk => by simp [hfresh k hk]) ?_
    · have hnumbers : (m.freshItems.take 64).Nodup :=
        (m.freshItems_ascending.imp Nat.ne_of_lt).sublist (List.take_sublist ..)
      rw [List.flatMap_append, List.nodup_append]
      refine ⟨hagree.nodup, by simpa using hnumbers, ?_⟩
      intro k hk l hl heq
      obtain ⟨b, hb, hkb⟩ := List.mem_flatMap.mp hk
      exact hapart b hb k hkb (heq ▸ by simpa using hl)
    · split_ifs with hk <;> simp [hk]
    · refine List.forall_mem_append.mpr ⟨fun b hb k hk => ?_, by simp +contextual⟩
      rw [if_neg (hapart b hb k hk)]
      exact hb
  · rw [Part.formBatch_route, hstate]

/-! Batches retired -/

/-- An item stands in one outstanding batch at most. -/
theorem Part.ItemsAgree.batch_unique {m : Part} (h : m.ItemsAgree) {a b : Batch} (ha : a ∈ m.upload.batches)
    (hb : b ∈ m.upload.batches) {k : Nat} (hka : k ∈ a.items) (hkb : k ∈ b.items) : a = b := by
  have hsymm : Std.Symm (Function.onFun List.Disjoint Batch.items) := ⟨fun _ _ hd => List.Disjoint.symm hd⟩
  by_contra hne
  exact (List.nodup_flatMap.mp h.nodup).2.forall ha hb hne hka hkb

section Retired

variable {m : Part} {b : Batch} {u : UploadState} {batch : Option Nat}

/-- A batch's items leave BATCHED, and the batch retires (R162, R167 to R169). -/
theorem retired_itemsAgree (h : m.ItemsAgree) (hsound : m.upload.Sound) (hb : b ∈ m.upload.batches) (hu : u ≠ .batched)
    (hfresh : u = .fresh → batch = none) : ((m.setItems u batch b.items).retire b.number).ItemsAgree := by
  have hmoved := setItems_moves u batch b.items m
  have hkept : ∀ x, x ∈ m.upload.batches.filter (fun x => x.number != b.number) ↔ x ∈ m.upload.batches ∧ x ≠ b := by
    intro x
    rw [List.mem_filter, bne_iff_ne]
    exact and_congr_right fun hx => not_congr
      ⟨fun heq => List.inj_on_of_nodup_map hsound.numbers hx hb heq, fun heq => heq ▸ rfl⟩
  rw [Part.retire, hmoved.batches]
  refine hmoved.itemsAgree h hfresh _ ?_ (fun k => ?_) (fun k hk => ?_) (fun x hx k hk => ?_)
  · exact h.nodup.sublist (List.filter_sublist.flatMap _)
  · split_ifs with hk
    · simp only [hkept, hu, iff_false]
      rintro ⟨x, ⟨hx, hne⟩, hkx⟩
      exact hne (h.batch_unique hx hb hkx hk)
    · simp only [hkept]
      exact ⟨fun ⟨x, ⟨hx, _⟩, hkx⟩ => ⟨x, hx, hkx⟩, fun ⟨x, hx, hkx⟩ => ⟨x, ⟨hx, fun heq => hk (heq ▸ hkx)⟩, hkx⟩⟩
  · simp [(h.batched k).mpr ⟨b, hb, hk⟩]
  · obtain ⟨hx, hne⟩ := (hkept x).mp hx
    rw [if_neg fun hkb => hne (h.batch_unique hx hb hk hkb)]
    exact hx

/-- Batches stand in UPLOADING alone (R163). -/
theorem Part.OrderFits.uploading_of_mem (h : m.OrderFits) (hb : b ∈ m.upload.batches) : m.route.state = .uploading := by
  by_contra hstate
  rw [h.batches hstate] at hb
  cases hb

/-- A returned batch's items are FRESH again, so some item is not CONFIRMED (R167, R169). -/
theorem returnBatch_orderTrue (hm : m.OrderTrue) (hsound : m.upload.Sound) (hb : b ∈ m.upload.batches) :
    (m.returnBatch b).OrderTrue := by
  obtain ⟨hagree, hfits⟩ := Part.orderTrue_iff.mp hm
  have hstate := hfits.uploading_of_mem hb
  have hmoved := setItems_moves .fresh none b.items m
  refine Part.orderTrue_iff.mpr ⟨retired_itemsAgree hagree hsound hb (by decide) fun _ => rfl, Part.orderFits_uploading ?_ ?_ ?_⟩
  · rw [Part.returnBatch_route, hstate]
  · exact hmoved.order.trans (hfits.stands.mpr (.inl hstate))
  · exact hmoved.unconfirmed hagree (by decide) (hfits.uploading hstate)

/-- When every item is CONFIRMED no batch is outstanding (R176). -/
theorem Part.ItemsAgree.no_batch (h : m.ItemsAgree) (hsound : m.upload.Sound) (hall : m.allConfirmed = true) :
    m.upload.batches = [] := by
  refine List.eq_nil_iff_forall_not_mem.mpr fun x hx => ?_
  obtain ⟨k, hk⟩ := List.exists_mem_of_length_pos (hsound.batches x hx).items_pos
  exact nomatch Part.allConfirmed_iff_stateOf.mp hall k .batched ((h.batched k).mpr ⟨x, hx, hk⟩)

/-- A confirmed batch's items are CONFIRMED, and the route is DONE when they were the last (R36, R168, R176). -/
theorem confirmBatch_orderTrue (hm : m.OrderTrue) (hsound : m.upload.Sound) (hb : b ∈ m.upload.batches) :
    (m.confirmItems b).finishUpload.OrderTrue := by
  obtain ⟨hagree, hfits⟩ := Part.orderTrue_iff.mp hm
  have hstate := hfits.uploading_of_mem hb
  have hordered : (m.confirmItems b).upload.order.isSome = true :=
    (setItems_moves .confirmed (some b.number) b.items m).order.trans (hfits.stands.mpr (.inl hstate))
  have hconfirmed : (m.confirmItems b).ItemsAgree := retired_itemsAgree hagree hsound hb (by decide) nofun
  unfold Part.finishUpload
  split_ifs with hall
  · have hnone := hconfirmed.no_batch (hsound.retired b .confirmed (some b.number)) hall
    refine Part.orderTrue_iff.mpr ⟨hconfirmed.moveRoute _,
      ⟨by simp [hordered], fun _ => hnone, fun h => ?_, nofun, fun _ => hall⟩⟩
    rw [Part.moveRoute_upload] at h
    simp [h] at hordered
  · refine Part.orderTrue_iff.mpr ⟨hconfirmed, Part.orderFits_uploading ?_ hordered (Bool.not_eq_true _ ▸ hall)⟩
    rw [Part.confirmItems_route, hstate]

end Retired

/-- Outstanding batches returned one after another (R172, R174). -/
theorem returnEach_orderTrue {l : List Batch} {m : Part} (hm : m.OrderTrue) (hsound : m.upload.Sound)
    (hl : ∀ b ∈ l, b ∈ m.upload.batches) (hnumbers : (l.map Batch.number).Nodup) :
    (l.foldl (fun m b => m.returnBatch b) m).OrderTrue := by
  induction l generalizing m with
  | nil => exact hm
  | cons b rest ih =>
    obtain ⟨hapart, hrest⟩ := List.nodup_cons.mp hnumbers
    have hb := hl b List.mem_cons_self
    refine ih (returnBatch_orderTrue hm hsound hb) (hsound.retired b .fresh none) (fun x hx => ?_) hrest
    refine (retired_batches b .fresh none m).symm ▸ List.mem_filter.mpr ⟨hl x (List.mem_cons_of_mem _ hx), bne_iff_ne.mpr ?_⟩
    exact fun heq => hapart (heq ▸ List.mem_map_of_mem hx)

/-! The end of a second -/

/-- Timers that run leave every batch its number and its items (R167). -/
theorem endSecond_orderTrue {m : Part} (hm : m.OrderTrue) : m.endSecond.OrderTrue := by
  obtain ⟨⟨hdistinct, hrecords, hentries, hnodup, hbatched, hnumbers⟩, hstands, hbatches, hfresh, huploading, hdone⟩ :=
    Part.orderTrue_iff.mp hm
  have hticked : ∀ (P : Batch → Prop), (∀ b : Batch, P b.tick ↔ P b) →
      ((∃ b ∈ m.endSecond.upload.batches, P b) ↔ ∃ b ∈ m.upload.batches, P b) := fun P hP => by
    simp [Part.endSecond, hP]
  refine Part.orderTrue_iff.mpr ⟨⟨hdistinct, hrecords, hentries, ?_, fun k => (hbatched k).trans (hticked _ fun _ => .rfl).symm,
      fun k i r hk hr => ⟨(hnumbers k i r hk hr).1, List.forall_mem_map.mpr (hnumbers k i r hk hr).2⟩⟩,
    hstands, fun h => List.map_eq_nil_iff.mpr (hbatches h), fun h => ⟨(hfresh h).1, (hfresh h).2⟩, huploading, hdone⟩
  rwa [show m.endSecond.upload.batches = m.upload.batches.map Batch.tick from rfl, List.flatMap_map]

/-! Events -/

/-- Every event keeps the upload order true. -/
theorem UploadEffect.orderTrue {m n : Part} (h : UploadEffect m n) (hc : Table.Canonical m.strangers.entries)
    (hsound : m.upload.Sound) (hm : m.OrderTrue) : n.OrderTrue := by
  cases h
  case same h => exact h.orderTrue hm
  case orderless hfrom h hto => exact h.orderTrue hfrom hto hm
  case emptied hstate hstore hentries hupload =>
    obtain ⟨horder, hbatches⟩ : n.upload.order = none ∧ n.upload.batches = [] := by
      obtain h | h := hupload <;> rw [h] <;> exact ⟨rfl, rfl⟩
    exact orderTrue_of_no_order (orderless_of_eq hstate) horder hbatches ⟨by simp [hstore], by simp [hentries]⟩
  case beginUpload hstate => exact formOrder_orderTrue hc hm hstate
  case nextBatch hstate _ _ => exact formBatch_orderTrue hm hstate
  case returned n l h hl =>
    rw [← h.upload] at hsound hl
    exact returnEach_orderTrue (h.orderTrue hm) hsound (fun b hb => hl.subset hb) (hsound.numbers.sublist (hl.map _))
  case confirmBatch hb => exact confirmBatch_orderTrue hm hsound hb
  case endSecond => exact endSecond_orderTrue hm

/-- The conditions under which every event keeps the upload order true. -/
structure Part.UploadTrue (m : Part) : Prop where
  canonical : Table.Canonical m.strangers.entries
  batches : m.upload.Sound
  order : m.OrderTrue

theorem UploadEffect.uploadTrue {m n : Part} (h : UploadEffect m n) (hm : m.UploadTrue) : n.UploadTrue :=
  ⟨h.canonical hm.canonical, h.sound hm.batches, h.orderTrue hm.canonical hm.batches hm.order⟩

/-- Settles O11: every event is one of the upload engine's, and each of these keeps the batch table and the order. -/
theorem batchesStayTrue : Obligations.BatchesStayTrue := by
  have hsame : ∀ m n : Part, m.SameBlocks n → UploadEffect m n := fun _ _ h => .same (sameItems_of_sameBlocks h)
  refine ⟨fun s t hs h => ?_, fun s t hcanonical hbatches horder h => ?_⟩
  · exact Part.batchesTrue_iff.mpr (step_keeps (P := fun m => m.upload.Sound) (fun m n h => (hsame m n h).sound)
      (fun _ _ h => h.uploadEffect.sound) h (Part.batchesTrue_iff.mp hs))
  · obtain ⟨_, _, _, _, ⟨hstrangers, _⟩, _⟩ := hcanonical
    exact (step_keeps (P := Part.UploadTrue) (fun m n h => (hsame m n h).uploadTrue)
      (fun _ _ h => h.uploadEffect.uploadTrue) h ⟨hstrangers, Part.batchesTrue_iff.mp hbatches, horder⟩).order

end Sys2Proof.Machine
end

section
/-! SUPPORT. What the blocks' own work does to the port controllers: it sets shared events, and nothing else (R186, R187). -/

namespace Sys2Proof.Machine

theorem without_or {w : Nat} (a b c : BitVec w) : without (a ||| b) c = without a c ||| without b c := by
  unfold without
  ext i
  simp only [BitVec.getElem_and, BitVec.getElem_or]
  exact Bool.and_or_distrib_right ..

/-- The port controllers are as they were, but for shared events that have been set. -/
def Signals (m n : Part) : Prop :=
  ∃ e : EventSet, without e sharedEvents = 0 ∧ n.ports = { m.ports with shared := m.ports.shared ||| e }

namespace Signals

theorem of_ports {m n : Part} (h : n.ports = m.ports := by rfl) : Signals m n := ⟨0, rfl, by simp [h]⟩

theorem refl (m : Part) : Signals m m := of_ports

theorem trans {m n k : Part} : Signals m n → Signals n k → Signals m k := by
  rintro ⟨a, ha, hn⟩ ⟨b, hb, hk⟩
  refine ⟨a ||| b, by rw [without_or, ha, hb]; rfl, ?_⟩
  rw [hk, hn, BitVec.or_assoc]

theorem setShared {e : EventSet} (he : without e sharedEvents = 0) (m : Part) : Signals m (m.setShared e) := ⟨e, he, rfl⟩

/-- Small changes one after another, each of which signals at most. -/
theorem foldl {α : Type} {f : Part → α → Part} (h : ∀ m x, Signals m (f m x)) (l : List α) (m : Part) :
    Signals m (l.foldl f m) := List.foldlRecOn l f (refl m) fun n hn x _ => hn.trans (h n x)

theorem closing {g : Closing → Nat × Member → Closing} (h : ∀ c e, Signals c.part (g c e).part) (l : List (Nat × Member))
    (c : Closing) : Signals c.part (l.foldl g c).part :=
  List.foldlRecOn (motive := fun d : Closing => Signals c.part d.part) l g (refl c.part) fun d hd e _ => hd.trans (h d e)

end Signals

/-! The tamper unit -/

theorem Part.stallEvent_shared (m : Part) (a : Alert) : without (m.stallEvent a) sharedEvents = 0 := by
  unfold Part.stallEvent
  split_ifs <;> decide

theorem offerAlert_signals (a : Alert) (m : Part) : Signals m (m.offerAlert a) := by
  have hstall := m.stallEvent_shared a
  by_cases hroom : m.tamper.alerts.length < 32
  · rw [Part.offerAlert_queued hroom]
    exact ⟨_, by rw [without_or, hstall]; decide, rfl⟩
  · rw [Part.offerAlert_lost hroom]
    exact ⟨_, by rw [without_or, hstall]; decide, rfl⟩

theorem tamperOutcome_signals (p : Nat) (r : Member) (inds : IndicatorSet) (m : Part) :
    Signals m (m.tamperOutcome p r inds).part := by
  unfold Part.tamperOutcome
  dsimp only
  split_ifs
  · exact .of_ports
  · exact .trans (n := m.onMember p (Member.heard m.tamper (m.tamper.fired inds) (m.stopState r.stop == some .closed)))
      .of_ports (offerAlert_signals ..)

theorem reportDeferred_signals (m : Part) (e : Nat × Member) : Signals m (m.reportDeferred e) :=
  .trans (n := m.onMember e.1 Member.reported) .of_ports (offerAlert_signals ..)

theorem reportAll_signals (m : Part) : Signals m m.reportAll := .foldl reportDeferred_signals ..

/-! The stop unit -/

theorem setReadState_signals (p : Nat) (r : ReadState) (m : Part) : Signals m (m.setReadState p r) :=
  .of_ports (m.setReadState_ports p r)

theorem carryMember_signals (c : Closing) (e : Nat × Member) : Signals c.part (carryMember c e).part := by
  unfold carryMember
  split_ifs
  · exact (setReadState_signals e.1 .carried c.part).trans .of_ports
  · exact setReadState_signals ..

theorem disposeMembers_signals (stop : Nat) (drop : Bool) (m : Part) : Signals m (m.disposeMembers stop drop).part := by
  have hcarry := Signals.closing carryMember_signals (m.unreadOf stop) ⟨m, 0, 0⟩
  unfold Part.disposeMembers
  dsimp only
  split_ifs
  · exact Signals.closing (g := dropMember) (fun c e => setReadState_signals e.1 .missed c.part) (m.unreadOf stop) ⟨m, 0, 0⟩
  · exact hcarry
  · exact hcarry.trans (.setShared (by decide) _)

theorem closeStop_signals (r : Stop) (drop : Bool) (m : Part) : Signals m (m.closeStop r drop).part :=
  ((disposeMembers_signals r.number drop m).trans (.of_ports (n := Part.onStops _ _))).trans
    (.foldl reportDeferred_signals ..)

theorem closeLingering_signals (m : Part) : Signals m m.closeLingering :=
  .foldl (fun m r => closeStop_signals r false m) ..

theorem endRoute_signals (m : Part) : Signals m m.endRoute :=
  .trans (n := { m with intake := m.intake.void, stops := m.stops.endRoute, dir := m.dir.giveUp }) .of_ports
    (reportAll_signals _)

theorem skipHead_signals (e : SweepEntry) (rest : List SweepEntry) (m : Part) : Signals m (m.skipHead e rest) := by
  obtain ⟨_, h⟩ | ⟨p, r, _, h⟩ := skipHead_cases e rest m <;> rw [h]
  · exact .of_ports
  · exact .of_ports (Part.setReadState_ports ..)

/-! The upload engine -/

theorem ItemsTouched.signals {m n : Part} : ItemsTouched m n → Signals m n := by
  rintro ⟨_, _, _, rfl, _⟩
  exact .of_ports

theorem formBatch_signals (number : Nat) (numbers : List Nat) (m : Part) : Signals m (m.formBatch number numbers) :=
  (setItems_touches .batched (some number) numbers m).signals.trans .of_ports

theorem returnBatch_signals (b : Batch) (m : Part) : Signals m (m.returnBatch b) := (returnBatch_touches b m).signals

theorem confirmItems_signals (b : Batch) (m : Part) : Signals m (m.confirmItems b) :=
  ((setItems_touches .confirmed (some b.number) b.items m).trans (retire_touches ..)).signals

theorem returnBatches_signals (m : Part) : Signals m m.returnBatches :=
  .foldl (fun m b => returnBatch_signals b m) ..

theorem breakLink_signals (m : Part) : Signals m m.breakLink := by
  unfold Part.breakLink
  split_ifs
  · exact .refl m
  · exact (returnBatches_signals m).trans (.setShared (by decide) _)

/-! Hearings and the route state -/

theorem hearStranger_signals (q : Queued) (lead : Option Nat) (m : Part) : Signals m (m.hearStranger q lead) := by
  unfold Part.hearStranger
  split
  · exact .of_ports
  · split
    · exact .of_ports
    · exact ⟨evStrangerEvicted, by decide, rfl⟩

theorem firstHearing_signals (p : Nat) (r : Member) (q : Queued) (m : Part) : Signals m (m.firstHearing p r q) := by
  unfold Part.firstHearing
  dsimp only
  exact (tamperOutcome_signals p r _ m).trans (.of_ports (Part.setReadState_ports ..))

theorem hear_signals (q : Queued) (m : Part) : Signals m (m.hear q) := by
  unfold Part.hear
  split
  · exact hearStranger_signals ..
  · split_ifs
    · split
      · exact .refl m
      · split
        · exact .refl m
        · exact (tamperOutcome_signals ..).trans .of_ports
    · exact firstHearing_signals ..

theorem completeTelegram_signals (e : Evaluation) (m : Part) : Signals m (m.completeTelegram e) := by
  have hfree : Signals m { m with intake := { m.intake with eval := none } } := .of_ports
  unfold Part.completeTelegram
  dsimp only
  split_ifs
  · exact .of_ports
  · exact (hfree.trans (hear_signals ..)).trans .of_ports

theorem moveRoute_signals (q : RouteState) (m : Part) : Signals m (m.moveRoute q) := ⟨evRouteChanged, by decide, rfl⟩

theorem finishUpload_signals (m : Part) : Signals m m.finishUpload := by
  obtain h | h := finishUpload_cases m <;> rw [h]
  · exact .refl m
  · exact moveRoute_signals ..

end Sys2Proof.Machine
end

section
/-! SUPPORT. Events within their places (R186, R189, R190): the operations on the ports that keep views and masks to their own
events. -/

namespace Sys2Proof.Machine

/-- A port's local events and its mask within their places. -/
def PortState.EventsLegal (p : HostPort) (q : PortState) : Prop :=
  without q.locals (localEvents p) = 0 ∧ without q.mask (viewEvents p) = 0

theorem Part.eventsLegal_iff {m : Part} :
    m.EventsLegal ↔ without m.ports.shared sharedEvents = 0 ∧ ∀ p, (m.port p).EventsLegal p := Iff.rfl

/-- Events that are taken away leave no stranger behind. -/
theorem without_without {w : Nat} {a b : BitVec w} (h : without a b = 0) (e : BitVec w) : without (without a e) b = 0 := by
  unfold without at *
  rw [BitVec.and_assoc, BitVec.and_comm (~~~e), ← BitVec.and_assoc, h]
  exact BitVec.zero_and

theorem PortState.eventsLegal_clear {p : HostPort} {q : PortState} (hlocals : q.locals = 0) (hmask : q.mask = 0) :
    q.EventsLegal p := by
  unfold PortState.EventsLegal
  rw [hlocals, hmask]
  exact ⟨BitVec.zero_and, BitVec.zero_and⟩

/-- The events a CLEAR EVENTS or a SET MASK names lie in the asking port's view (R189, R190). -/
theorem eventsOf_legal {p : HostPort} {body : List Byte} {e : EventSet} (h : eventsOf p body = some e) :
    without e (viewEvents p) = 0 := by
  unfold eventsOf at h
  split_ifs at h
  obtain ⟨_, _, h⟩ := Option.bind_eq_some_iff.mp h
  split_ifs at h with hlegal
  cases h
  exact hlegal

namespace Part.EventsLegal

variable {m : Part} (hm : m.EventsLegal)

include hm

/-- Only the shared events, the local events and the masks are spoken of. -/
theorem of_same {n : Part} (hshared : n.ports.shared = m.ports.shared)
    (h : ∀ p, (n.port p).locals = (m.port p).locals ∧ (n.port p).mask = (m.port p).mask) : n.EventsLegal := by
  refine ⟨hshared ▸ hm.1, fun p => ?_⟩
  rw [(h p).1, (h p).2]
  exact hm.2 p

/-- Input lines and the dock status have no part in the events. -/
theorem of_lines {n : Part} (hshared : n.ports.shared = m.ports.shared := by rfl) (hcab : n.ports.cab = m.ports.cab := by rfl)
    (hdepot : n.ports.depot = m.ports.depot := by rfl) : n.EventsLegal :=
  hm.of_same hshared fun p => by cases p <;> simp [Part.port, hcab, hdepot]

theorem signals {n : Part} : Signals m n → n.EventsLegal := by
  rintro ⟨e, he, hn⟩
  obtain ⟨hshared, hports⟩ := hm
  refine ⟨by rw [hn, without_or, hshared, he]; rfl, fun p => ?_⟩
  have hport : n.port p = m.port p := by cases p <;> simp [Part.port, hn]
  rw [hport]
  exact hports p

theorem onPort {p : HostPort} {f : PortState → PortState} (h : (f (m.port p)).EventsLegal p) :
    (m.onPort p f).EventsLegal := by
  refine ⟨by rw [Part.onPort_shared]; exact hm.1, fun q => ?_⟩
  by_cases hq : p = q
  · subst hq
    rwa [Part.port_onPort]
  · rw [Part.port_onPort_of_ne _ _ hq]
    exact hm.2 q

theorem onLink (l : Line) (f : Link → Link) : (m.onLink l f).EventsLegal := by
  cases l
  case radio => exact hm.of_lines
  case cab => exact hm.onPort (p := .cab) (hm.2 .cab)
  case depot => exact hm.onPort (p := .depot) (hm.2 .depot)

theorem send (l : Line) (r : Response) : (m.send l r).EventsLegal := hm.onLink ..

theorem answer (p : HostPort) (tag : Byte) (code : ReplyCode) (reply : Reply) : (m.answer p tag code reply).EventsLegal :=
  hm.send ..

theorem refuse (p : HostPort) (tag : Byte) (code : ReplyCode) : (m.refuse p tag code).EventsLegal := hm.answer ..

theorem answerRadio (tag : Byte) (code : ReplyCode) : (m.answerRadio tag code).EventsLegal := hm.send ..

theorem assemble (l : Line) (a : Assembly) : (m.assemble l a).EventsLegal := hm.onLink ..

theorem setScan (p : HostPort) (c : Option Scan) : (m.setScan p c).EventsLegal := hm.onPort (hm.2 p)

theorem holdReset (p : HostPort) (level : Bool) : (m.onPort p (fun q => { q with resetHeld := level })).EventsLegal :=
  hm.onPort (hm.2 p)

theorem setLocal {p : HostPort} {e : EventSet} (he : without e (localEvents p) = 0) : (m.setLocal p e).EventsLegal := by
  obtain ⟨hlocals, hmask⟩ := hm.2 p
  exact hm.onPort ⟨by rw [without_or, hlocals, he]; rfl, hmask⟩

theorem clearEvents (p : HostPort) (e : EventSet) : (m.clearEvents p e).EventsLegal := by
  have hshared : Part.EventsLegal { m with ports := { m.ports with shared := without m.ports.shared e } } :=
    ⟨without_without hm.1 e, hm.2⟩
  obtain ⟨hlocals, hmask⟩ := hm.2 p
  exact hshared.onPort ⟨without_without hlocals e, hmask⟩

theorem setMask {p : HostPort} {e : EventSet} (he : without e (viewEvents p) = 0) :
    (m.onPort p (fun q => { q with mask := e })).EventsLegal := hm.onPort ⟨(hm.2 p).1, he⟩

theorem clearPort (p : HostPort) : (m.onPort p PortState.cleared).EventsLegal :=
  hm.onPort (PortState.eventsLegal_clear rfl rfl)

end Part.EventsLegal

/-- Ports that have been cleared hold no events. -/
theorem eventsLegal_of_clear {m : Part} (hshared : m.ports.shared = 0)
    (h : ∀ p, (m.port p).locals = 0 ∧ (m.port p).mask = 0) : m.EventsLegal :=
  ⟨by rw [hshared]; rfl, fun p => PortState.eventsLegal_clear (h p).1 (h p).2⟩

theorem clearPorts_eventsLegal (m : Part) : m.clearPorts.EventsLegal :=
  eventsLegal_of_clear rfl fun p => by cases p <;> exact ⟨rfl, rfl⟩

end Sys2Proof.Machine
end

section
/-! SUPPORT. What a request leaves of the ports (R181, R182, R186): the other port as it was, and its own port's frame assembly,
scan and waiting responses; its response, with its tag, comes after these. -/

namespace Sys2Proof.Machine

/-- The other port is as it was, the port of the request but for its local events and its mask, and events keep to their places. -/
structure Minds (p : HostPort) (m n : Part) : Prop where
  own : ∃ locals mask, n.port p = { m.port p with locals := locals, mask := mask }
  other : ∀ q, q ≠ p → n.port q = m.port q
  legal : m.EventsLegal → n.EventsLegal

theorem Signals.port {m n : Part} : Signals m n → ∀ p, n.port p = m.port p := by
  rintro ⟨e, _, hn⟩ p
  cases p <;> simp [Part.port, hn]

theorem Signals.minds {m n : Part} (h : Signals m n) (p : HostPort) : Minds p m n where
  own := ⟨_, _, h.port p⟩
  other q _ := h.port q
  legal hm := hm.signals h

theorem clearEvents_minds (p : HostPort) (e : EventSet) (m : Part) : Minds p m (m.clearEvents p e) where
  own := ⟨without (m.port p).locals e, (m.port p).mask, by cases p <;> rfl⟩
  other q hq := (Part.port_onPort_of_ne _ _ (Ne.symm hq)).trans (by cases q <;> rfl)
  legal hm := hm.clearEvents p e

theorem setMask_minds {p : HostPort} {e : EventSet} (he : without e (viewEvents p) = 0) (m : Part) :
    Minds p m (m.onPort p (fun q => { q with mask := e })) where
  own := ⟨_, _, Part.port_onPort ..⟩
  other _ hq := Part.port_onPort_of_ne _ _ (Ne.symm hq)
  legal hm := hm.setMask he

/-- One response, on the request's own port, with its tag. -/
def Answered (p : HostPort) (tag : Byte) (m n : Part) : Prop :=
  ∃ n₀ code reply, Minds p m n₀ ∧ n = n₀.answer p tag code reply

theorem Answered.minded {p : HostPort} {tag : Byte} {m n : Part} (h : Minds p m n) (code : ReplyCode) (reply : Reply) :
    Answered p tag m (n.answer p tag code reply) := ⟨n, code, reply, h, rfl⟩

theorem Answered.signalled {p : HostPort} {tag : Byte} {m n : Part} (h : Signals m n) (code : ReplyCode) (reply : Reply) :
    Answered p tag m (n.answer p tag code reply) := .minded (h.minds p) code reply

/-- A response from a part whose ports are as they were. -/
theorem Answered.of_ports {p : HostPort} {tag : Byte} {m n : Part} (code : ReplyCode) (reply : Reply)
    (h : n.ports = m.ports := by rfl) : Answered p tag m (n.answer p tag code reply) := .signalled (.of_ports h) code reply

theorem Answered.refused (p : HostPort) (tag : Byte) (m : Part) (code : ReplyCode) : Answered p tag m (m.refuse p tag code) :=
  .of_ports (n := m) code .none

theorem takeClose_answered (tag : Byte) (r : Stop) (mode : CloseMode) (m : Part) :
    Answered .cab tag m (m.takeClose tag r mode) := by
  unfold Part.takeClose
  split
  · exact .of_ports (n := Part.onStops _ _) ..
  · exact .signalled (closeStop_signals ..) ..

/-- The requests of the cab alone. -/
theorem serve_cab_answered {r : Request} (hr : r ∉ portRequests .depot) (tag : Byte) (body : List Byte) (m : Part) :
    Answered .cab tag m (serve r .cab tag body m) := by
  cases r
  case readStop | readSweep | readAlert | acknowledgeAlert | setPass =>
    simp only [serve, serveReadStop, serveReadSweep, serveReadAlert, serveAcknowledgeAlert, serveSetPass]
    repeat' split
    all_goals exact .of_ports ..
  case openStop =>
    simp only [serve, serveOpenStop]
    repeat' split
    any_goals exact .refused ..
    exact .of_ports (n := Part.onStops _ _) ..
  case startRoute =>
    simp only [serve, serveStartRoute]
    repeat' split
    any_goals exact .refused ..
    exact .signalled (.trans (n := { m with route := { m.route with clock := 0, clockRunning := true } }) .of_ports
      (moveRoute_signals ..)) ..
  case endRoute =>
    simp only [serve, serveEndRoute]
    repeat' split
    any_goals exact .refused ..
    exact .signalled ((endRoute_signals m).trans (moveRoute_signals ..)) ..
  case closeStop =>
    simp only [serve, serveCloseStop]
    repeat' split
    any_goals exact .refused ..
    exact takeClose_answered ..
  case skipSweep =>
    simp only [serve, serveSkipSweep]
    repeat' split
    any_goals exact .refused ..
    exact .signalled (skipHead_signals ..) ..
  all_goals exact absurd (by decide) hr

/-- The requests of the depot alone, CLEAR ROUTE apart. -/
theorem serve_depot_answered {r : Request} (hr : r ∉ portRequests .cab) (hclear : r ≠ .clearRoute) (tag : Byte)
    (body : List Byte) (m : Part) : Answered .depot tag m (serve r .depot tag body m) := by
  cases r
  case clearRoute => exact absurd rfl hclear
  case loadStop | loadMember | loadProfile | loadClass | clearTamper =>
    simp only [serve, serveLoadStop, serveLoadMember, serveLoadProfile, serveLoadClass, serveClearTamper]
    repeat' split
    any_goals exact .refused ..
    all_goals exact .of_ports ..
  case beginLoad =>
    simp only [serve, serveBeginLoad]
    repeat' split
    any_goals exact .refused ..
    exact .signalled (moveRoute_signals ..) ..
  case finishLoad =>
    simp only [serve, serveFinishLoad]
    repeat' split
    any_goals exact .refused ..
    · exact .of_ports ..
    · exact .signalled (.trans (n := m.countMembers.fillClasses) .of_ports (moveRoute_signals ..)) ..
  case beginUpload =>
    simp only [serve, serveBeginUpload]
    repeat' split
    any_goals exact .refused ..
    exact .signalled (.trans (n := m.formOrder) .of_ports (moveRoute_signals ..)) ..
  case nextBatch =>
    simp only [serve, serveNextBatch]
    repeat' split
    any_goals exact .refused ..
    · exact .of_ports ..
    · exact .of_ports ..
    · exact .signalled (formBatch_signals ..) ..
  case confirmBatch =>
    simp only [serve, serveConfirmBatch]
    repeat' split
    any_goals exact .refused ..
    · exact .of_ports ..
    · exact .signalled ((confirmItems_signals ..).trans (finishUpload_signals _)) ..
  case rejectBatch =>
    simp only [serve, serveRejectBatch]
    repeat' split
    any_goals exact .refused ..
    · exact .of_ports ..
    · exact .signalled ((returnBatch_signals ..).trans (.setShared (by decide) _)) ..
  all_goals exact absurd (by decide) hr

/-- The requests that both ports carry, QUERY MEMBERS apart. -/
theorem serve_shared_answered {r : Request} (hcab : r ∈ portRequests .cab) (hdepot : r ∈ portRequests .depot)
    (hquery : r ≠ .queryMembers) (p : HostPort) (tag : Byte) (body : List Byte) (m : Part) :
    Answered p tag m (serve r p tag body m) := by
  cases r
  case queryMembers => exact absurd rfl hquery
  case readMember | readStrangers | readState =>
    simp only [serve, serveReadMember, serveReadStrangers, serveReadState]
    repeat' split
    all_goals exact .of_ports ..
  case clearEvents =>
    simp only [serve, serveClearEvents]
    split
    · exact .refused ..
    · exact .minded (clearEvents_minds ..) ..
  case setMask =>
    simp only [serve, serveSetMask]
    split
    · exact .refused ..
    · next hbody => exact .minded (setMask_minds (eventsOf_legal hbody) m) ..
  case startRoute | endRoute | openStop | closeStop | readStop | skipSweep | readSweep | acknowledgeAlert | readAlert
      | setPass => exact absurd hdepot (by decide)
  all_goals exact absurd hcab (by decide)

/-- Every request but QUERY MEMBERS and CLEAR ROUTE is answered once, on its own port, under its own tag (R181, R182). -/
theorem serve_answered {p : HostPort} {r : Request} (hr : r ∈ portRequests p) (hquery : r ≠ .queryMembers)
    (hclear : r ≠ .clearRoute) (tag : Byte) (body : List Byte) (m : Part) : Answered p tag m (serve r p tag body m) := by
  by_cases hcab : r ∈ portRequests .cab
  · by_cases hdepot : r ∈ portRequests .depot
    · exact serve_shared_answered hcab hdepot hquery p tag body m
    · cases port_eq_cab hr hdepot
      exact serve_cab_answered hdepot tag body m
  · cases port_eq_depot hr hcab
    exact serve_depot_answered hcab hclear tag body m

theorem Answered.eventsLegal {p : HostPort} {tag : Byte} {m n : Part} (h : Answered p tag m n) (hm : m.EventsLegal) :
    n.EventsLegal := by
  obtain ⟨n₀, code, reply, h, rfl⟩ := h
  exact (h.legal hm).answer ..

/-- Settles O16: every other request is answered once, from a part whose ports it has minded. -/
theorem oneResponseForOneRequest : Obligations.OneResponseForOneRequest := by
  refine ⟨fun m p tag code body => Part.send_portLine .., fun m tag code => rfl, ?_⟩
  intro r p tag body m hr hquery hclear
  obtain ⟨n, code, reply, h, hserved⟩ := serve_answered hr hquery hclear tag body m
  obtain ⟨locals, mask, hown⟩ := h.own
  refine ⟨code, reply, ?_⟩
  rw [hserved, Part.answer, Part.send_portLine, Part.port_onPort, hown]
  refine ⟨rfl, rfl, rfl, fun q hq => ?_⟩
  rw [Part.port_onPort_of_ne _ _ (Ne.symm hq)]
  exact h.other q hq

end Sys2Proof.Machine
end

section
/-! SUPPORT. Every step keeps views and masks to their own events (R186, R189, R190). -/

namespace Sys2Proof.Machine

/-! Requests -/

namespace Part.EventsLegal

variable {m : Part} (hm : m.EventsLegal)

include hm

theorem endScan (p : HostPort) : (m.endScan p).EventsLegal := by
  unfold Part.endScan
  split
  · exact hm
  · exact (hm.setScan p none).send ..

theorem answerClear (tag : Byte) : (m.answerClear tag).EventsLegal := by
  have hcab := hm.endScan .cab
  have hcounted : Part.EventsLegal { m.endScan .cab with choices := (m.endScan .cab).choices + 1 } := hcab
  unfold Part.answerClear
  dsimp only
  split
  · exact hcab.answer ..
  · split_ifs
    · exact (hcounted.endScan .depot).answer ..
    · exact (hcounted.answer ..).endScan .depot

theorem serveClearRoute (tag : Byte) (body : List Byte) : (serveClearRoute tag body m).EventsLegal := by
  have hemptied : m.emptyRoute.EventsLegal := hm.signals .of_ports
  unfold Machine.serveClearRoute
  repeat' split
  any_goals exact hm.refuse ..
  exact (hemptied.signals (moveRoute_signals ..)).answerClear tag

theorem serveQueryMembers (p : HostPort) (tag : Byte) (body : List Byte) :
    (serveQueryMembers p tag body m).EventsLegal := by
  unfold Machine.serveQueryMembers
  repeat' split
  any_goals exact hm.refuse ..
  · exact hm.answer ..
  · exact hm.setScan ..

theorem serve {p : HostPort} {r : Request} (hr : r ∈ portRequests p) (tag : Byte) (body : List Byte) :
    (serve r p tag body m).EventsLegal := by
  by_cases hquery : r = .queryMembers
  · subst hquery
    exact hm.serveQueryMembers p tag body
  by_cases hclear : r = .clearRoute
  · subst hclear
    exact hm.serveClearRoute tag body
  exact (serve_answered hr hquery hclear tag body m).eventsLegal hm

/-! Frames and bytes -/

theorem serveHost (p : HostPort) (f : RxFrame) : (serveHost p f m).EventsLegal := by
  have badFrame : (serveBadFrame p f m).EventsLegal := (hm.setLocal (by cases p <;> decide)).refuse ..
  unfold Machine.serveHost
  split
  · exact badFrame
  · split_ifs
    · split
      · next hcode => exact hm.serve (List.mem_of_find?_eq_some hcode) ..
      · exact hm.refuse ..
    · exact badFrame

theorem serveRadio (f : RxFrame) : (serveRadio f m).EventsLegal := by
  unfold Machine.serveRadio Part.receiveTelegram
  repeat' split
  any_goals exact hm.answerRadio ..
  exact (hm.signals (.setShared (by decide) m)).answerRadio ..

theorem judge (l : Line) (f : RxFrame) : (judge l f m).EventsLegal := by
  cases l
  case radio => exact hm.serveRadio f
  case cab => exact hm.serveHost .cab f
  case depot => exact hm.serveHost .depot f

theorem arrive (l : Line) (f : RxFrame) : (arrive l f m).EventsLegal := by
  obtain ⟨_, h⟩ | ⟨_, h⟩ := arrive_cases l f m <;> rw [h]
  · exact hm.judge l f
  · exact hm.onLink ..

theorem startOverrun (l : Line) : (startOverrun l m).EventsLegal := by
  unfold Machine.startOverrun
  dsimp only
  split
  · exact hm.onLink ..
  · exact (hm.onLink ..).setLocal (by cases ‹HostPort› <;> decide)

theorem receiveByte (l : Line) (b : Byte) : (receiveByte l m b).EventsLegal := by
  unfold Machine.receiveByte collect
  repeat' split
  any_goals exact hm
  · exact hm.startOverrun l
  · exact hm.assemble ..
  · exact hm.assemble ..
  · exact hm.assemble ..
  · exact (hm.assemble ..).arrive ..

theorem silence (l : Line) : (silence l m).EventsLegal := by
  unfold Machine.silence
  repeat' split
  any_goals exact hm
  · exact hm.assemble ..
  · exact (hm.assemble ..).arrive ..
  · exact (hm.assemble ..).arrive ..

theorem receiveBytes (l : Line) (bytes : List Byte) : (receiveBytes l bytes m).EventsLegal :=
  List.foldlRecOn bytes _ hm fun _ h b _ => h.receiveByte l b

theorem frameEvent (l : Line) (f : RxFrame) : (frameEvent l f (Machine.judge l f) m).EventsLegal := by
  unfold Machine.frameEvent receiveFrame
  split_ifs
  · exact hm.judge l f
  · exact hm.onLink ..
  · split
    · exact hm.receiveBytes ..
    · exact (hm.receiveBytes ..).silence l

theorem transmitted (l : Line) : (transmitted l m).EventsLegal := by
  unfold Machine.transmitted releaseHeld
  repeat' split
  any_goals exact hm
  · exact hm.onLink ..
  · exact ((hm.onLink ..).onLink ..).judge ..
  · exact hm.onLink ..

/-! The other commands -/

theorem reachScan (p : HostPort) (c : Scan) : (m.reachScan p c).EventsLegal := by
  unfold Part.reachScan
  dsimp only
  split_ifs
  · exact (hm.setScan ..).send ..
  · exact hm.setScan ..

theorem expireLinger (i : Fin 4) : (m.expireLinger i).EventsLegal := by
  unfold Part.expireLinger
  repeat' split
  any_goals exact hm
  exact (hm.signals (closeStop_signals ..)).setLocal (p := .cab) (by decide)

theorem expireBatch (number : Nat) : (m.expireBatch number).EventsLegal := by
  unfold Part.expireBatch
  repeat' split
  any_goals exact hm
  exact (hm.signals (returnBatch_signals ..)).signals (.setShared (by decide) _)

theorem dock : m.dock.EventsLegal := by
  have hline : Part.EventsLegal { m with ports := { m.ports with dockLine := true } } := hm
  unfold Part.dock
  dsimp only
  split_ifs
  · exact Part.EventsLegal.setLocal (m := Part.sampleDock _) hline (p := .depot) (by decide)
  · exact hline

theorem undock : m.undock.EventsLegal := by
  have hline : Part.EventsLegal { m with ports := { m.ports with dockLine := false } } := hm
  unfold Part.undock
  dsimp only
  split_ifs
  · have hdepot := Part.EventsLegal.onPort (m := Part.sampleDock { m with ports := { m.ports with dockLine := false } })
      (p := .depot) (f := fun q => { q with link := q.link.emptied, scan := none }) hline (hline.2 .depot)
    exact hdepot.signals (breakLink_signals _)
  · exact hline

theorem resetCab : m.resetCab.EventsLegal := by
  have hheld := hm.holdReset .cab true
  unfold Part.resetCab
  dsimp only
  split_ifs
  · exact hheld.clearPort .cab
  · exact hheld

theorem resetDepot : m.resetDepot.EventsLegal := by
  have hheld := hm.holdReset .depot true
  unfold Part.resetDepot
  dsimp only
  split_ifs
  · exact (hheld.clearPort .depot).signals (breakLink_signals _)
  · exact hheld

end Part.EventsLegal

theorem start_eventsLegal (s : Start) (m : Part) : (m.start s).EventsLegal := by
  cases s
  · exact eventsLegal_of_clear rfl fun p => by cases p <;> exact ⟨rfl, rfl⟩
  · exact (clearPorts_eventsLegal m.clearVolatile.closeLingering.returnBatches).of_lines

theorem powerUp_eventsLegal {m : Part} (hm : m.EventsLegal) (kept : Bool) : (m.powerUp kept).EventsLegal := by
  unfold Part.powerUp
  dsimp only
  split
  · exact hm
  · exact start_eventsLegal ..

theorem assertReset_eventsLegal {m : Part} (hm : m.EventsLegal) : m.assertReset.EventsLegal := by
  unfold Part.assertReset
  dsimp only
  split_ifs
  · split
    · exact start_eventsLegal .warm _
    · exact clearPorts_eventsLegal m
  · exact hm

theorem releaseReset_eventsLegal {m : Part} (hm : m.EventsLegal) : m.releaseReset.EventsLegal := by
  unfold Part.releaseReset
  dsimp only
  repeat' split
  · exact start_eventsLegal ..
  · exact hm
  · exact hm

theorem whileAlive_eventsLegal {f : Part → Part} (h : ∀ m : Part, m.EventsLegal → (f m).EventsLegal) {m : Part}
    (hm : m.EventsLegal) : (whileAlive f m).EventsLegal := by
  unfold whileAlive
  split_ifs
  · exact h m hm
  · exact hm

/-! Commands and steps -/

/-- What a command that is no frame does keeps the events within their places. -/
theorem exec_unframed_eventsLegal {c : Instr} (h : frameOfCommand c = none) (s : State) :
    ∃ f : Part → Part, exec c s = act f s ∧ ∀ m : Part, m.EventsLegal → (f m).EventsLegal := by
  cases c <;> cases h
  case telegramCompletion =>
    refine ⟨_, rfl, fun m => whileAlive_eventsLegal fun m hm => ?_⟩
    split
    · exact hm
    · exact hm.signals (completeTelegram_signals ..)
  case confirmTimerExpiry n => exact ⟨_, rfl, fun m => whileAlive_eventsLegal fun m hm => hm.expireBatch n⟩
  case lingerExpiry i => exact ⟨_, rfl, fun m => whileAlive_eventsLegal fun m hm => hm.expireLinger i⟩
  case scanReach p =>
    refine ⟨_, rfl, fun m => whileAlive_eventsLegal fun m hm => ?_⟩
    split
    · exact hm
    · exact hm.reachScan ..
  case receiveSilence l => exact ⟨_, rfl, fun m hm => hm.silence l⟩
  case overrun l b => exact ⟨fun m => receiveByte l m b, rfl, fun m hm => hm.receiveByte l b⟩
  case transmitCompletion l => exact ⟨_, rfl, fun m => whileAlive_eventsLegal fun m hm => hm.transmitted l⟩
  case dockLineRising => exact ⟨_, rfl, fun m hm => hm.dock⟩
  case dockLineFalling => exact ⟨_, rfl, fun m hm => hm.undock⟩
  case cabPortReset => exact ⟨_, rfl, fun m hm => hm.resetCab⟩
  case depotPortReset => exact ⟨_, rfl, fun m hm => hm.resetDepot⟩
  case powerUp kept => exact ⟨_, rfl, fun m hm => powerUp_eventsLegal hm kept⟩
  case powerLoss => exact ⟨_, rfl, fun m _ => clearPorts_eventsLegal m⟩
  case reset => exact ⟨_, rfl, fun m => assertReset_eventsLegal⟩
  case resetRelease => exact ⟨_, rfl, fun m => releaseReset_eventsLegal⟩
  case endOfSecond => exact ⟨_, rfl, fun m => whileAlive_eventsLegal fun m hm => hm.signals (n := m.endSecond) .of_ports⟩
  case cabPortResetRelease => exact ⟨_, rfl, fun m hm => hm.holdReset .cab false⟩
  case depotPortResetRelease => exact ⟨_, rfl, fun m hm => hm.holdReset .depot false⟩

theorem step_eventsLegal {s t : State} (h : step s = .next t) (hs : s.part.EventsLegal) : t.part.EventsLegal := by
  unfold step at h
  split at h
  · cases h
    exact hs
  · next c rest _ =>
    cases hc : frameOfCommand c with
    | none =>
      obtain ⟨f, hf, hkept⟩ := exec_unframed_eventsLegal hc { s with pending := rest }
      cases hf.symm.trans h
      exact hkept _ hs
    | some lf =>
      rw [exec_frame_judged (l := lf.1) (f := lf.2) hc] at h
      cases h
      exact Part.EventsLegal.frameEvent hs ..

end Sys2Proof.Machine
end

section
/-! SUPPORT. Watch maps within their places (R6, R83, R88): the hearing of a member and CLEAR TAMPER write them, and nothing else. -/

namespace Sys2Proof.Machine

/-- A watch map in its canonical form, over the classes 0 to 3, with counts of 0 to 14. -/
def WatchFits (w : Table Nat) : Prop := Table.Within 4 w ∧ ∀ e ∈ w, e.2 ≤ 14

/-- Every member's watch map within its places. -/
def Part.WatchesFit (m : Part) : Prop := ∀ e ∈ m.dir.ways, WatchFits e.2.watch

/-- Every clean count within its range (R83, R84). -/
def Tamper.CleanFits (u : Tamper) : Prop := ∀ e ∈ u.classes, 1 ≤ e.2.clean ∧ e.2.clean ≤ 15

theorem watchFits_nil : WatchFits [] := ⟨⟨Table.canonical_nil, nofun⟩, nofun⟩

theorem WatchFits.filter {w : Table Nat} (h : WatchFits w) (test : Nat × Nat → Bool) : WatchFits (w.filter test) := by
  obtain ⟨⟨hcanonical, hbound⟩, hcounts⟩ := h
  exact ⟨⟨hcanonical.sublist (List.filter_sublist.map _), fun e he => hbound e (List.mem_of_mem_filter he)⟩,
    fun e he => hcounts e (List.mem_of_mem_filter he)⟩

theorem Tamper.CleanFits.classOf {u : Tamper} (h : u.CleanFits) (n : Nat) :
    1 ≤ (u.classOf n).clean ∧ (u.classOf n).clean ≤ 15 := by
  unfold Tamper.classOf
  cases hfind : Table.find u.classes n with
  | none => exact ⟨le_rfl, by decide⟩
  | some r => exact h _ (Table.mem_of_find hfind)

/-- The keys of a table made of one optional entry for each of some keys stand in the order of these. -/
theorem keys_filterMap_sublist {α : Type} (f : Nat → Option α) (l : List Nat) :
    ((l.filterMap fun n => (f n).map fun c => (n, c)).map Prod.fst).Sublist l := by
  induction l with
  | nil => exact .slnil
  | cons n rest ih =>
    cases hf : f n with
    | none => simpa [hf] using ih.cons n
    | some c => simpa [hf] using ih

/-- A hearing's count stays below the class's clean count (R88). -/
theorem watchAfter_le {u : Tamper} (hu : u.CleanFits) {fired : ClassSet} {w : Table Nat} {n c : Nat}
    (h : watchAfter u fired w n = some c) : c ≤ 14 := by
  have hclean := (hu.classOf n).2
  unfold watchAfter at h
  split_ifs at h
  · cases h
    omega
  · split at h
    · cases h
    · split_ifs at h with hbelow
      cases h
      omega

theorem watchMapAfter_fits {u : Tamper} (hu : u.CleanFits) (fired : ClassSet) (w : Table Nat) :
    WatchFits (watchMapAfter u fired w) := by
  have hkeys := keys_filterMap_sublist (watchAfter u fired w) [0, 1, 2, 3]
  refine ⟨⟨List.Pairwise.sublist hkeys (by decide), fun e he => ?_⟩, fun e he => ?_⟩
  · have hkey : e.1 ∈ [0, 1, 2, 3] := hkeys.subset (List.mem_map_of_mem he)
    exact List.mem_range.mp (show e.1 ∈ List.range 4 from hkey)
  · obtain ⟨n, _, hn⟩ := List.mem_filterMap.mp he
    obtain ⟨c, hc, rfl⟩ := Option.map_eq_some_iff.mp hn
    exact watchAfter_le hu hc

/-! Members whose watch maps are left -/

/-- The watch map at each position. -/
def Directory.watches (d : Directory) : List (Nat × Table Nat) := d.ways.map (fun e => (e.1, e.2.watch))

/-- Every member's watch map is as it was. -/
def SameWatches (m n : Part) : Prop := n.dir.watches = m.dir.watches

theorem SameWatches.of_dir {m n : Part} (h : n.dir = m.dir := by rfl) : SameWatches m n := congrArg _ h

theorem SameWatches.trans {m n k : Part} (h : SameWatches m n) (h' : SameWatches n k) : SameWatches m k := Eq.trans h' h

theorem SameWatches.watchesFit {m n : Part} (h : SameWatches m n) (hm : m.WatchesFit) : n.WatchesFit := by
  have watchesFit_iff : ∀ k : Part, k.WatchesFit ↔ ∀ x ∈ k.dir.watches, WatchFits x.2 := fun k => by
    simp only [Part.WatchesFit, Directory.watches, List.forall_mem_map]
  rw [watchesFit_iff] at hm ⊢
  rwa [h]

theorem onMember_sameWatches {f : Member → Member} (h : ∀ r, (f r).watch = r.watch) (p : Nat) (m : Part) :
    SameWatches m (m.onMember p f) := Table.map_modify_of_kept Member.watch h p m.dir.ways

theorem setReadState_sameWatches (p : Nat) (r : ReadState) (m : Part) : SameWatches m (m.setReadState p r) := by
  unfold Part.setReadState
  split
  · exact .of_dir
  · exact Table.map_modify_of_kept (f := fun e => { e with readState := r }) Member.watch (fun _ => rfl) p m.dir.ways

theorem giveUp_sameWatches {m n : Part} (h : n.dir = m.dir.giveUp) : SameWatches m n := by
  rw [SameWatches, h]
  exact Table.map_mapValues_of_kept (f := Member.givenUp) Member.watch (fun r => by rw [Member.givenUp_eq]) m.dir.ways

theorem sameWatches_foldl {α : Type} {f : Part → α → Part} (h : ∀ m x, SameWatches m (f m x)) (l : List α) (m : Part) :
    SameWatches m (l.foldl f m) := List.foldlRecOn l f rfl fun n hn x _ => SameWatches.trans hn (h n x)

theorem reportDeferred_sameWatches (m : Part) (e : Nat × Member) : SameWatches m (m.reportDeferred e) :=
  (onMember_sameWatches (f := Member.reported) (fun _ => rfl) e.1 m).trans (.of_dir (Part.offerAlert_dir ..))

theorem closing_sameWatches {g : Closing → Nat × Member → Closing} (h : ∀ c e, SameWatches c.part (g c e).part)
    (l : List (Nat × Member)) (c : Closing) : SameWatches c.part (l.foldl g c).part :=
  List.foldlRecOn (motive := fun d : Closing => SameWatches c.part d.part) l g rfl
    fun d hd e _ => SameWatches.trans hd (h d e)

theorem carryMember_sameWatches (c : Closing) (e : Nat × Member) : SameWatches c.part (carryMember c e).part := by
  unfold carryMember
  split_ifs
  · exact (setReadState_sameWatches e.1 .carried c.part).trans .of_dir
  · exact setReadState_sameWatches ..

theorem disposeMembers_sameWatches (stop : Nat) (drop : Bool) (m : Part) :
    SameWatches m (m.disposeMembers stop drop).part := by
  have hcarry := closing_sameWatches carryMember_sameWatches (m.unreadOf stop) ⟨m, 0, 0⟩
  unfold Part.disposeMembers
  dsimp only
  split_ifs
  · exact closing_sameWatches (g := dropMember) (fun c e => setReadState_sameWatches e.1 .missed c.part) _ ⟨m, 0, 0⟩
  · exact hcarry
  · exact hcarry

theorem closeStop_sameWatches (r : Stop) (drop : Bool) (m : Part) : SameWatches m (m.closeStop r drop).part :=
  ((disposeMembers_sameWatches r.number drop m).trans (.of_dir (n := Part.onStops _ _))).trans
    (sameWatches_foldl reportDeferred_sameWatches ..)

theorem endRoute_sameWatches (m : Part) : SameWatches m m.endRoute :=
  (giveUp_sameWatches (n := { m with intake := m.intake.void, stops := m.stops.endRoute, dir := m.dir.giveUp }) rfl).trans
    (sameWatches_foldl reportDeferred_sameWatches ..)

theorem skipHead_sameWatches (e : SweepEntry) (rest : List SweepEntry) (m : Part) : SameWatches m (m.skipHead e rest) := by
  obtain ⟨_, h⟩ | ⟨p, r, _, h⟩ := skipHead_cases e rest m <;> rw [h]
  · exact .of_dir
  · exact setReadState_sameWatches ..

theorem ItemsTouched.sameWatches {m n : Part} (h : ItemsTouched m n) : SameWatches m n := by
  obtain ⟨_, _, _, rfl, _⟩ := h
  exact .of_dir

theorem finishUpload_sameWatches (m : Part) : SameWatches m m.finishUpload := by
  obtain h | h := finishUpload_cases m <;> rw [h] <;> exact .of_dir

/-! Members whose watch map is written -/

theorem Part.WatchesFit.onMember {m : Part} (hm : m.WatchesFit) (p : Nat) {f : Member → Member}
    (hf : ∀ r, WatchFits r.watch → WatchFits (f r).watch) : (m.onMember p f).WatchesFit := by
  intro e he
  obtain ⟨x, hx, rfl⟩ := List.mem_map.mp he
  split_ifs
  · exact hf x.2 (hm x hx)
  · exact hm x hx

theorem tamperOutcome_watchesFit {m : Part} (hm : m.WatchesFit) (hu : m.tamper.CleanFits) (p : Nat) (r : Member)
    (inds : IndicatorSet) : (m.tamperOutcome p r inds).part.WatchesFit := by
  have hmember := hm.onMember p
    (f := Member.heard m.tamper (m.tamper.fired inds) (m.stopState r.stop == some .closed))
    fun x _ => watchMapAfter_fits hu _ x.watch
  unfold Part.tamperOutcome
  dsimp only
  split_ifs
  · exact hmember
  · exact SameWatches.watchesFit (.of_dir (Part.offerAlert_dir ..)) hmember

/-- A first hearing writes watch maps in its tamper outcome alone (R52). -/
theorem firstHearing_sameWatches (p : Nat) (r : Member) (q : Queued) (m : Part) :
    SameWatches (m.tamperOutcome p r (judgeFirst r.width (m.profile r.profile) r.prior
      (atWidth r.width q.telegram.counter) q.telegram).indicators).part (m.firstHearing p r q) := by
  unfold Part.firstHearing
  dsimp only
  refine SameWatches.trans ?_ (.of_dir (m := Part.onMember p (fun e => { e with record := some m.store.length }) _) rfl)
  refine SameWatches.trans ?_ (onMember_sameWatches (f := fun e => { e with record := some m.store.length }) (fun _ => rfl) ..)
  exact SameWatches.trans (.of_dir rfl) (setReadState_sameWatches ..)

theorem hear_watchesFit {m : Part} (hm : m.WatchesFit) (hu : m.tamper.CleanFits) (q : Queued) : (m.hear q).WatchesFit := by
  unfold Part.hear
  split
  · exact SameWatches.watchesFit (.of_dir (hearStranger_dir ..)) hm
  · next p r _ =>
    split_ifs
    · split
      · exact hm
      · split
        · exact hm
        · exact SameWatches.watchesFit .of_dir (tamperOutcome_watchesFit hm hu p r _)
    · exact (firstHearing_sameWatches p r q m).watchesFit (tamperOutcome_watchesFit hm hu _ _ _)

theorem completeTelegram_watchesFit {m : Part} (hm : m.WatchesFit) (hu : m.tamper.CleanFits) (e : Evaluation) :
    (m.completeTelegram e).WatchesFit := by
  unfold Part.completeTelegram
  dsimp only
  split_ifs
  · exact hm
  · exact hear_watchesFit (m := { m with intake := { m.intake with eval := none } }) hm hu e.queued

/-! Effects -/

theorem Routine.watchesFit {m n : Part} (h : Routine m n) (hm : m.WatchesFit) : n.WatchesFit := by
  cases h
  case none | openStop | startLinger | acknowledge | setPass | queueTelegram | clearVolatile => exact hm
  case closeStop | expireLinger => exact (closeStop_sameWatches ..).watchesFit hm
  case clearTamper classes _ _ _ _ _ => exact hm.onMember _ fun r h => h.filter _
  case nextBatch => exact ((setItems_touches ..).sameWatches.trans .of_dir).watchesFit hm
  case returnBatch => exact (returnBatch_touches ..).sameWatches.watchesFit hm
  case returnBatches => exact (returnEach_touches ..).sameWatches.watchesFit hm
  case warmStart =>
    have hclosed : SameWatches m m.clearVolatile.closeLingering :=
      sameWatches_foldl (fun m r => closeStop_sameWatches r false m) _ m.clearVolatile
    exact (hclosed.trans (returnEach_touches ..).sameWatches).watchesFit hm

/-- Every effect keeps the watch maps within their places, while the clean counts are. -/
theorem Effect.watchesFit {m n : Part} (h : Effect m n) (hu : m.tamper.CleanFits) (hm : m.WatchesFit) : n.WatchesFit := by
  cases h
  case routine h => exact h.watchesFit hm
  case beginLoad | loadStop | loadProfile | loadClass | finishLoad | startRoute | beginUpload | endSecond => exact hm
  case loadMember =>
    intro e he
    obtain rfl | he := Table.mem_put he
    · exact watchFits_nil
    · exact hm e he
  case clearRoute | coldStart => exact nofun
  case endRoute => exact SameWatches.watchesFit ((endRoute_sameWatches m).trans .of_dir) hm
  case skipSweep => exact (skipHead_sameWatches ..).watchesFit hm
  case confirmBatch b _ _ =>
    have hitems := (setItems_touches .confirmed (some b.number) b.items m).trans (retire_touches b.number _)
    exact (hitems.sameWatches.trans (finishUpload_sameWatches _)).watchesFit hm
  case completeTelegram => exact completeTelegram_watchesFit hm hu _

end Sys2Proof.Machine
end

section
/-! SUPPORT. Every step keeps every keyed table in its form, its keys within its places (R3, R23, R63, R83, R130). -/

namespace Sys2Proof.Machine

theorem Table.Within.of_keys {α β : Type} {bound : Nat} {t : Table α} {u : Table β} (ht : Table.Within bound t)
    (h : u.map Prod.fst = t.map Prod.fst) : Table.Within bound u := by
  obtain ⟨hcanonical, hbound⟩ := ht
  refine ⟨?_, fun e he => ?_⟩
  · rw [Table.Canonical, h]
    exact hcanonical
  · obtain ⟨x, hx, hkey⟩ := List.mem_map.mp (h ▸ List.mem_map_of_mem he : e.1 ∈ t.map Prod.fst)
    rw [← hkey]
    exact hbound x hx

theorem Table.Within.put {α : Type} {bound : Nat} {t : Table α} (ht : Table.Within bound t) {k : Nat} (hk : k < bound)
    (v : α) : Table.Within bound (Table.put k v t) := by
  refine ⟨ht.1.put k v, fun e he => ?_⟩
  obtain rfl | he := Table.mem_put he
  · exact hk
  · exact ht.2 e he

theorem Table.within_nil {α : Type} (bound : Nat) : Table.Within bound ([] : Table α) := ⟨Table.canonical_nil, nofun⟩

/-- The keyed tables in their form, the watch maps left aside. -/
structure Part.TablesFit (m : Part) : Prop where
  members : Table.Within 8192 m.dir.ways
  profiles : Table.Within 16 m.profiles
  classes : Table.Within 4 m.tamper.classes
  stops : Table.Within 512 m.stops.records
  strangers : Table.Within 256 m.strangers.entries
  clean : m.tamper.CleanFits

theorem Part.tablesCanonical_iff {m : Part} : m.TablesCanonical ↔ m.TablesFit ∧ m.WatchesFit := by
  constructor
  · rintro ⟨hmembers, hprofiles, hclasses, hstops, hstrangers, hclean, hwatches⟩
    exact ⟨⟨hmembers, hprofiles, hclasses, hstops, hstrangers, hclean⟩, hwatches⟩
  · rintro ⟨⟨hmembers, hprofiles, hclasses, hstops, hstrangers, hclean⟩, hwatches⟩
    exact ⟨hmembers, hprofiles, hclasses, hstops, hstrangers, hclean, hwatches⟩

/-- Where nothing is loaded or removed, every key stands where it stood. -/
theorem KeepsPlaces.tablesFit {m n : Part} (h : KeepsPlaces m n) (hm : m.TablesFit) : n.TablesFit := by
  have keys {α β : Type} {f : α → β} (t : List (Nat × α)) : t.map Prod.fst = (t.map fun e => (e.1, f e.2)).map Prod.fst := by
    simp
  refine ⟨hm.members.of_keys ?_, h.profiles ▸ hm.profiles, h.classes ▸ hm.classes, hm.stops.of_keys ?_,
    hm.strangers.of_keys ?_, fun e he => hm.clean e (h.classes ▸ he)⟩
  · rw [← n.dir.fst_places, ← m.dir.fst_places, h.members]
  · exact (keys _).trans ((congrArg (List.map Prod.fst) h.stops).trans (keys _).symm)
  · exact (keys _).trans ((congrArg (List.map Prod.fst) h.strangers).trans (keys _).symm)

theorem Part.TablesFit.moveRoute {m : Part} (hm : m.TablesFit) (q : RouteState) : (m.moveRoute q).TablesFit :=
  { hm with }

/-! Loading -/

theorem loadStopOf_stop {body : List Byte} {f : LoadStopFields} (h : loadStopOf body = some f) : f.stop < 512 := by
  unfold loadStopOf at h
  split_ifs at h
  obtain ⟨stop, hstop, h⟩ := Option.bind_eq_some_iff.mp h
  obtain ⟨mode, _, h⟩ := Option.bind_eq_some_iff.mp h
  cases h
  unfold stopNumberOf at hstop
  split_ifs at hstop with hbound
  cases hstop
  exact hbound

theorem loadProfileOf_index {body : List Byte} {e : Nat × Profile} (h : loadProfileOf body = some e) : e.1 < 16 := by
  unfold loadProfileOf at h
  split_ifs at h with hbody
  cases h
  exact hbody.2.1

theorem cleanCountOf_range (n : Nat) : 1 ≤ cleanCountOf n ∧ cleanCountOf n ≤ 15 := by
  unfold cleanCountOf
  split_ifs <;> omega

theorem loadClassOf_fits {body : List Byte} {e : Nat × ClassRecord} (h : loadClassOf body = some e) :
    e.1 < 4 ∧ 1 ≤ e.2.clean ∧ e.2.clean ≤ 15 := by
  unfold loadClassOf at h
  split_ifs at h with hbody
  simp only [bind, Option.bind_eq_some_iff] at h
  obtain ⟨_, _, _, _, _, _, _, _, h⟩ := h
  cases h
  exact ⟨hbody.2, cleanCountOf_range _⟩

theorem freePosition_lt {d : Directory} {k : Key} {p : Nat} (h : d.freePosition k = some p) : p < 8192 := by
  have hset := (Directory.freePosition_set h).1
  omega

theorem Part.TablesFit.loadClass {m : Part} (hm : m.TablesFit) {n : Nat} {c : ClassRecord}
    (hn : n < 4) (hc : 1 ≤ c.clean ∧ c.clean ≤ 15) (route : RouteControl) : Part.TablesFit { m with
      tamper := { m.tamper with classes := Table.put n c m.tamper.classes }
      route := route } := by
  refine { hm with classes := hm.classes.put hn c, clean := fun e he => ?_ }
  obtain rfl | he := Table.mem_put he
  · exact hc
  · exact hm.clean e he

/-- FINISH LOAD gives every class number a record, and every stop its member count (R28, R85). -/
theorem Part.TablesFit.finishLoad {m : Part} (hm : m.TablesFit) : m.countMembers.fillClasses.TablesFit := by
  have hkeys : m.countMembers.fillClasses.tamper.classes.map Prod.fst = [0, 1, 2, 3] := rfl
  have hstops : m.countMembers.fillClasses.stops.records.map Prod.fst = m.stops.records.map Prod.fst := by
    unfold Part.countMembers Part.fillClasses Part.onStops
    dsimp only
    exact Table.keys_mapValues ..
  refine { hm with stops := hm.stops.of_keys hstops, classes := ?_, clean := fun e he => ?_ }
  · refine ⟨?_, fun e he => ?_⟩
    · rw [Table.Canonical, hkeys]
      decide
    · have hkey : e.1 ∈ [0, 1, 2, 3] := hkeys ▸ List.mem_map_of_mem he
      exact List.mem_range.mp (show e.1 ∈ List.range 4 from hkey)
  · obtain ⟨n, _, rfl⟩ := List.mem_map.mp he
    dsimp only
    split_ifs
    · exact hm.clean.classOf n
    · exact ⟨le_rfl, by decide⟩

/-! Strangers -/

/-- A stranger's telegram writes a way of its key's set (R130, R133). -/
theorem hearStranger_within {m : Part} (hm : Table.Within 256 m.strangers.entries) (q : Queued) (lead : Option Nat) :
    Table.Within 256 (m.hearStranger q lead).strangers.entries := by
  have hset := strangerSet_lt q.telegram.key
  have hput : ∀ w < 4, Table.Within 256
      (Table.put (strangerSet q.telegram.key * Config.ways + w) (Stranger.ofQueued q lead) m.strangers.entries) :=
    fun w hw => hm.put (by simp only [Config.ways]; omega) _
  unfold Part.hearStranger
  split
  · next e _ =>
    have hkeys : (m.strangers.refresh e.1 q).entries.map Prod.fst = m.strangers.entries.map Prod.fst := by
      unfold Strangers.refresh Strangers.touch
      dsimp only
      exact Table.keys_modify ..
    exact hm.of_keys hkeys
  · split
    · next w hfree => exact hput w (Strangers.freeWay_eq_some_iff.mp hfree).1
    · exact hput _ (Tree.victim_lt _)

theorem hearStranger_tablesFit {m : Part} (hm : m.TablesFit) (q : Queued) (lead : Option Nat) :
    (m.hearStranger q lead).TablesFit := by
  have hstrangers := hearStranger_within hm.strangers q lead
  obtain ⟨t, events, h⟩ := m.hearStranger_cases q lead
  rw [h] at hstrangers ⊢
  exact { hm with strangers := hstrangers }

/-! Effects -/

theorem tablesFit_of_empty {m : Part} (hways : m.dir.ways = []) (hprofiles : m.profiles = [])
    (hclasses : m.tamper.classes = []) (hrecords : m.stops.records = []) (hentries : m.strangers.entries = []) :
    m.TablesFit where
  members := hways ▸ Table.within_nil _
  profiles := hprofiles ▸ Table.within_nil _
  classes := hclasses ▸ Table.within_nil _
  stops := hrecords ▸ Table.within_nil _
  strangers := hentries ▸ Table.within_nil _
  clean := by
    rw [Tamper.CleanFits, hclasses]
    exact nofun

/-- Every effect keeps the keyed tables in their form: an entry is written within the table's places. -/
theorem Effect.tablesFit {m n : Part} (h : Effect m n) (hm : m.TablesFit) : n.TablesFit := by
  have hc := hm.members.1
  cases h
  case routine h => exact (h.turns hc).keepsPlaces.tablesFit hm
  case beginLoad | startRoute | endSecond => exact { hm with }
  case loadStop hbody _ => exact { hm with stops := hm.stops.put (loadStopOf_stop hbody) _ }
  case loadMember hfree => exact { hm with members := hm.members.put (freePosition_lt hfree) _ }
  case loadProfile hbody => exact { hm with profiles := hm.profiles.put (loadProfileOf_index hbody) _ }
  case loadClass hbody =>
    obtain ⟨hn, hclean⟩ := loadClassOf_fits hbody
    exact hm.loadClass hn hclean _
  case finishLoad => exact hm.finishLoad.moveRoute _
  case clearRoute | coldStart => exact tablesFit_of_empty rfl rfl rfl rfl rfl
  case beginUpload => exact ((formOrder_turns m).keepsPlaces.tablesFit hm).moveRoute _
  case endRoute => exact ((endRoute_turns m).keepsPlaces.tablesFit hm).moveRoute _
  case skipSweep => exact (skipHead_keepsPlaces ..).tablesFit hm
  case confirmBatch b _ _ =>
    have hitems := (confirmItems_turns b m).keepsPlaces.tablesFit hm
    obtain h | h := finishUpload_cases (m.confirmItems b) <;> rw [h]
    · exact hitems
    · exact hitems.moveRoute _
  case completeTelegram e _ =>
    obtain h | ⟨_, _, k, k', h⟩ := completeTelegram_cases hc e
    · exact h.keepsPlaces.tablesFit hm
    · have hheard := hearStranger_tablesFit (m := { m with intake := k }) { hm with } e.queued m.stops.lead
      rw [h]
      exact { hheard with }

theorem tablesCanonical_of_sameBlocks {m n : Part} (h : m.SameBlocks n) (hm : m.TablesCanonical) : n.TablesCanonical := by
  obtain ⟨_, _, _, rfl⟩ := h
  exact hm

theorem Effect.tablesCanonical {m n : Part} (h : Effect m n) (hm : m.TablesCanonical) : n.TablesCanonical := by
  obtain ⟨hfit, hwatches⟩ := Part.tablesCanonical_iff.mp hm
  exact Part.tablesCanonical_iff.mpr ⟨h.tablesFit hfit, h.watchesFit hfit.clean hwatches⟩

/-- Settles O3: the port operations keep events to their places, and every effect keeps the tables in their form. -/
theorem eventsAndTablesStayInForm : Obligations.EventsAndTablesStayInForm := fun _ _ h =>
  ⟨step_eventsLegal h, step_keeps (fun _ _ => tablesCanonical_of_sameBlocks) (fun _ _ => Effect.tablesCanonical) h⟩

end Sys2Proof.Machine
end

section
/-! SUPPORT. Frame assembly byte by byte (R178, R179): a line that stands between frames collects the bytes of a frame, and the
last of them, or the silence after them, hands the frame over. -/

namespace Sys2Proof.Machine

variable {l : Line} {m : Part}

/-! Operations on frame assembly -/

theorem Part.onLink_onLink (l : Line) (f g : Link → Link) (m : Part) :
    (m.onLink l f).onLink l g = m.onLink l (fun k => g (f k)) := by
  cases l <;> rfl

theorem Part.listening_onLink (l : Line) (f : Link → Link) (m : Part) (k : Line) :
    (m.onLink l f).listening k = m.listening k := by
  cases l <;> cases k <;> rfl

@[simp] theorem Part.listening_assemble (l : Line) (a : Assembly) (m : Part) (k : Line) :
    (m.assemble l a).listening k = m.listening k := Part.listening_onLink ..

@[simp] theorem Part.assemble_assemble (l : Line) (a b : Assembly) (m : Part) :
    (m.assemble l a).assemble l b = m.assemble l b := Part.onLink_onLink ..

@[simp] theorem Part.link_assemble (l : Line) (a : Assembly) (m : Part) :
    (m.assemble l a).link l = { m.link l with rx := a } := Part.link_onLink ..

/-- Assembly written as it stands. -/
theorem Part.assemble_self {a : Assembly} (h : (m.link l).rx = a) : m.assemble l a = m := by
  subst h
  cases l <;> rfl

theorem Part.betweenFrames_iff : m.betweenFrames l = true ↔ (m.link l).rx = .collecting [] ∧ (m.link l).held = none := by
  simp [Part.betweenFrames]

theorem collect_assemble (bytes : List Byte) (a : Assembly) : collect l bytes (m.assemble l a) = collect l bytes m := by
  simp only [collect, Part.assemble_assemble]

/-! The bytes of a frame -/

/-- The frame under assembly is still open: its length field is not complete, or it is within its range and calls for more bytes. -/
def OpenBytes (bytes : List Byte) : Prop :=
  2 ≤ bytes.length → lengthOutOfRange (u16 bytes 0) = false ∧ bytes.length < u16 bytes 0 + 4

theorem lengthOutOfRange_iff {n : Nat} : lengthOutOfRange n = true ↔ n < 2 ∨ 64 < n := by
  rw [lengthOutOfRange, Bool.or_eq_true, decide_eq_true_iff, decide_eq_true_iff]
  rfl

/-- The length field is read off the first two bytes. -/
theorem u16_append {bytes : List Byte} (h : 2 ≤ bytes.length) (rest : List Byte) : u16 (bytes ++ rest) 0 = u16 bytes 0 := by
  obtain _ | ⟨a, _ | ⟨b, z⟩⟩ := bytes
  · exact absurd h (by decide)
  · exact absurd h (by simp)
  · rfl

theorem OpenBytes.of_append {bytes rest : List Byte} (h : OpenBytes (bytes ++ rest)) : OpenBytes bytes := by
  intro hlength
  have hopen := h (hlength.trans (by simp))
  rw [u16_append hlength, List.length_append] at hopen
  exact ⟨hopen.1, by omega⟩

theorem collect_open {bytes : List Byte} (h : OpenBytes bytes) : collect l bytes m = m.assemble l (.collecting bytes) := by
  unfold collect
  split_ifs with hfew hrange hmore
  · rfl
  · rw [(h (not_lt.mp hfew)).1] at hrange
    cases hrange
  · rfl
  · exact absurd (h (not_lt.mp hfew)).2 hmore

/-- A byte on a line that is taken, with no frame held. -/
theorem receiveByte_collects (hlistening : m.listening l = true) (hheld : (m.link l).held = none) (bytes : List Byte) (b : Byte) :
    receiveByte l (m.assemble l (.collecting bytes)) b = collect l (bytes ++ [b]) m := by
  simp [receiveByte, hlistening, hheld, collect_assemble]

/-- The bytes of a frame that is still open stand in assembly. -/
theorem receiveBytes_open (hlistening : m.listening l = true) (hbetween : m.betweenFrames l = true) {bytes : List Byte}
    (h : OpenBytes bytes) : receiveBytes l bytes m = m.assemble l (.collecting bytes) := by
  obtain ⟨hrx, hheld⟩ := Part.betweenFrames_iff.mp hbetween
  induction bytes using List.reverseRecOn with
  | nil => exact (Part.assemble_self hrx).symm
  | append_singleton bytes b ih =>
    rw [receiveBytes, List.foldl_concat, ← receiveBytes, ih h.of_append, receiveByte_collects hlistening hheld, collect_open h]

/-- The byte after an open frame's bytes meets these. -/
theorem receiveBytes_concat (hlistening : m.listening l = true) (hbetween : m.betweenFrames l = true) {bytes : List Byte}
    (h : OpenBytes bytes) (b : Byte) : receiveBytes l (bytes ++ [b]) m = collect l (bytes ++ [b]) m := by
  rw [receiveBytes, List.foldl_concat, ← receiveBytes, receiveBytes_open hlistening hbetween h,
    receiveByte_collects hlistening (Part.betweenFrames_iff.mp hbetween).2]

/-! Frames that end by their length -/

section
variable (code tag : Byte) (body : List Byte) (check : Word16)

theorem frameBytes_length : (frameBytes code tag body check).length = body.length + 6 := by
  simp [frameBytes, frameHead, be16]

/-- A frame's bytes spell its length, code, tag, body and check (R178). -/
theorem frameOf_frameBytes (h : body.length + 2 ≤ 64) :
    u16 (frameBytes code tag body check) 0 = body.length + 2 ∧
    frameOf (frameBytes code tag body check) = .byLength code tag body check := by
  have hbytes : (frameBytes code tag body check).drop 0 = be16 (body.length + 2) ++ code :: tag :: (body ++ be16 check.toNat) := by
    simp [frameBytes, frameHead]
  obtain ⟨_, hlength, hrest⟩ := (drop_eq_be16_iff (by omega)).mp hbytes
  obtain ⟨_, hcode, hrest⟩ := drop_eq_cons_iff.mp hrest
  obtain ⟨_, htag, hrest⟩ := drop_eq_cons_iff.mp hrest
  have hcheck : (frameBytes code tag body check).drop (body.length + 2 + 2) = be16 check.toNat ++ [] := by
    rw [show body.length + 2 + 2 = 4 + body.length by omega, ← List.drop_drop]
    exact (congrArg (List.drop body.length) hrest).trans (by simp)
  obtain ⟨_, hcheck, _⟩ := (drop_eq_be16_iff check.isLt).mp hcheck
  refine ⟨hlength, ?_⟩
  simp only [frameOf, hlength, hcheck, hcode, htag]
  rw [hrest]
  simp

/-- A frame's bytes but the last leave it open, and the last ends it (R179). -/
theorem receiveBytes_frame (hlistening : m.listening l = true) (hbetween : m.betweenFrames l = true)
    (h : body.length + 2 ≤ 64) :
    receiveBytes l (frameBytes code tag body check) m = arrive l (.byLength code tag body check) m := by
  obtain ⟨hfield, hframe⟩ := frameOf_frameBytes code tag body check h
  have hlength := frameBytes_length code tag body check
  have hrange : lengthOutOfRange (body.length + 2) = false := by
    rw [Bool.eq_false_iff, ne_eq, lengthOutOfRange_iff]
    omega
  generalize frameBytes code tag body check = bytes at *
  obtain rfl | ⟨bytes, b, rfl⟩ := List.eq_nil_or_concat' bytes
  · cases hlength
  rw [List.length_append, List.length_singleton] at hlength
  rw [u16_append (by omega)] at hfield
  have hopen : OpenBytes bytes := fun _ => by
    rw [hfield]
    exact ⟨hrange, by omega⟩
  have hends : ¬ bytes.length + 1 < 2 ∧ ¬ bytes.length + 1 < body.length + 2 + 4 := by omega
  rw [receiveBytes_concat hlistening hbetween hopen]
  simp only [collect, List.length_append, List.length_singleton, u16_append (show 2 ≤ bytes.length by omega), hfield, hrange, hends,
    hframe, if_false, Bool.false_eq_true]
  rw [Part.assemble_self (Part.betweenFrames_iff.mp hbetween).1]

end

/-! Frames that silence ends -/

/-- The bytes of a malformed frame stand in assembly, or their length field is out of range (R179). -/
theorem receiveBytes_short (hlistening : m.listening l = true) (hbetween : m.betweenFrames l = true) {bytes : List Byte}
    (h : shortBytes bytes = true) : receiveBytes l bytes m = m.assemble l (.collecting bytes) ∨
      receiveBytes l bytes m = m.assemble l (.badLength bytes) := by
  obtain _ | ⟨a, _ | ⟨b, _ | ⟨c, z⟩⟩⟩ := bytes
  · cases h
  · exact .inl (receiveBytes_open hlistening hbetween fun h => absurd h (by simp))
  · have hfirst : OpenBytes [a] := fun h => absurd h (by simp)
    rw [show [a, b] = [a] ++ [b] from rfl, receiveBytes_concat hlistening hbetween hfirst]
    cases hrange : lengthOutOfRange (u16 [a, b] 0) with
    | true => exact .inr (by simp [collect, hrange])
    | false => exact .inl (collect_open fun _ => ⟨hrange, by simp⟩)
  · refine .inl (receiveBytes_open hlistening hbetween fun _ => ?_)
    have hfield : u16 (a :: b :: c :: z) 0 = u16 [a, b] 0 := rfl
    simpa [shortBytes, hfield] using h

/-- Silence ends a frame under assembly, or one with an out-of-range length (R179). -/
theorem silence_ends (hlistening : m.listening l = true) {bytes : List Byte} (hbytes : bytes ≠ [])
    (h : (m.link l).rx = .collecting bytes ∨ (m.link l).rx = .badLength bytes) :
    silence l m = arrive l (.malformed bytes) (m.assemble l (.collecting [])) := by
  obtain ⟨b, rest, rfl⟩ := List.exists_cons_of_ne_nil hbytes
  obtain h | h := h <;> simp [silence, hlistening, h]

theorem silence_short (hlistening : m.listening l = true) (hbetween : m.betweenFrames l = true) {bytes : List Byte}
    (h : shortBytes bytes = true) : silence l (receiveBytes l bytes m) = arrive l (.malformed bytes) m := by
  have hbytes : bytes ≠ [] := by
    rintro rfl
    cases h
  have hself := Part.assemble_self (Part.betweenFrames_iff.mp hbetween).1
  obtain h | h := receiveBytes_short hlistening hbetween h <;> rw [h, silence_ends (by simpa using hlistening) hbytes (by simp),
    Part.assemble_assemble, hself]

/-! The frame as one command (log 1) -/

/-- A frame that fits, on a line that stands between frames, is handed over by its bytes. -/
theorem receiveFrame_arrives (hlistening : m.listening l = true) (hbetween : m.betweenFrames l = true) {f : RxFrame}
    (hfits : f.fits = true) : receiveFrame l f m = arrive l f m := by
  cases f with
  | byLength code tag body check =>
    exact receiveBytes_frame code tag body check hlistening hbetween (decide_eq_true_iff.mp hfits)
  | malformed bytes => exact silence_short hlistening hbetween hfits

/-- Settles O14: on a line between frames the bytes hand the frame over; anywhere else the command is the bytes. -/
theorem frameIsItsBytes : Obligations.FrameIsItsBytes := by
  intro l f m
  cases hends : m.listening l && m.betweenFrames l && f.fits with
  | false => exact frameEvent_bytes hends _
  | true =>
    have htaken := hends
    rw [Bool.and_eq_true, Bool.and_eq_true] at htaken
    obtain ⟨⟨hlistening, hbetween⟩, hfits⟩ := htaken
    rw [receiveFrame_arrives hlistening hbetween hfits]
    unfold frameEvent arrive
    rw [if_pos hends]

/-- Settles O15: the command is the coming in of its frame, which is its bytes. -/
theorem requestCommandIsItsBytes : Obligations.RequestCommandIsItsBytes := by
  intro p r tag body s hr
  refine (exec_request hr tag body s).trans ?_
  rw [act_next, frameIsItsBytes]
  rfl

end Sys2Proof.Machine
end

section
/-! SUPPORT. The lines and the frames they hand over (R178 to R183): codes and checks, silence, overruns, held frames, and the
transmit side. -/

namespace Sys2Proof.Machine

/-! Codes and checks (R178, R180, R202) -/

/-- A code names a request of the port, and that request has the code (R202). -/
theorem requestCode_of_requestOf {p : HostPort} {code : Byte} {r : Request} (h : requestOf p code = some r) :
    code = requestCode r := by
  have hcode := List.find?_some h
  exact (beq_iff_eq.mp hcode).symm

/-- No other request has the code of a request that the port does not carry (R202). -/
theorem requestOf_requestCode_of_not_mem {p : HostPort} {r : Request} (hr : r ∉ portRequests p) :
    requestOf p (requestCode r) = none := by
  revert hr
  cases p <;> cases r <;> decide

theorem judge_portLine (p : HostPort) (f : RxFrame) (m : Part) : judge (portLine p) f m = serveHost p f m := by
  cases p <;> rfl

/-- A frame that is malformed or fails its check (R180). -/
theorem serveHost_badFrame (p : HostPort) {f : RxFrame} (h : f.checkHolds = false) (m : Part) :
    serveHost p f m = (m.setLocal p evLinkFault).answer p f.tag .badFrame .none := by
  cases f with
  | malformed => rfl
  | byLength =>
    simp only [serveHost, h]
    rfl

/-- A sound frame with a code that is no request of the port (R180). -/
theorem serveHost_unknownCode {p : HostPort} {code : Byte} (h : requestOf p code = none) (tag : Byte) (body : List Byte)
    (m : Part) : serveHost p (.sound code tag body) m = m.answer p tag .badValue .none := by
  simp only [serveHost, RxFrame.sound, RxFrame.checkHolds, beq_self_eq_true, if_true, h]
  rfl

/-- A frame command on a line that takes it makes of the part what its judging does (R179). -/
theorem frame_becomes {c : Instr} {l : Line} {f : RxFrame} (hc : frameOfCommand c = some (l, f)) {s : State}
    (hready : Ready s l) (hfits : f.fits = true) {m : Part} (h : judge l f s.part = m) : Becomes c s m := by
  rw [Becomes, exec_frame_judged hc, act_next, frameEvent_ready hready hfits, h]

/-- Settles O17: codes and layouts are read off their definitions; a ready port judges the frame by its check, then its code. -/
theorem badFramesAndUnknownCodes : Obligations.BadFramesAndUnknownCodes := by
  refine ⟨⟨rfl, rfl, rfl, rfl⟩, fun r => ⟨frameHead (replyCode r.code) r.tag (bodyBytes r.body), ?_, ?_⟩, fun p r => ?_,
    fun p code r => requestCode_of_requestOf, fun p s hready => ⟨fun f hfits hcheck => ?_, fun code tag body hbody hcode => ?_⟩⟩
  · simp [frameHead]
  · rw [responseBytes, frameBytes, frameCheck, BitVec.toNat_ofNat]
    rfl
  · split_ifs with hr
    · exact requestOf_requestCode hr
    · exact requestOf_requestCode_of_not_mem hr
  · exact frame_becomes rfl hready hfits ((judge_portLine ..).trans (serveHost_badFrame p hcheck _))
  · exact frame_becomes rfl hready (sound_fits hbody) ((judge_portLine ..).trans (serveHost_unknownCode hcode ..))

/-! Silence (R179, R183) -/

section
variable {l : Line} {m : Part}

theorem silence_unheard (h : m.listening l = false) : silence l m = m := by simp [silence, h]

theorem silence_between (h : (m.link l).rx = .collecting []) : silence l m = m := by
  unfold silence
  rw [h]
  exact ite_self m

theorem silence_overrun (hlistening : m.listening l = true) (h : (m.link l).rx = .overrun) :
    silence l m = m.assemble l (.collecting []) := by
  simp [silence, hlistening, h]

theorem hasRoom_assemble (a : Assembly) : (m.assemble l a).hasRoom l = m.hasRoom l := (assemble_queues l a m).hasRoom l

/-- A frame that ends with no room for its response is held (R182, R183). -/
theorem arrive_full (h : m.hasRoom l = false) (f : RxFrame) :
    arrive l f m = m.onLink l (fun k => { k with held := some f }) := by
  simp [arrive, h]

theorem arrive_room (h : m.hasRoom l = true) (f : RxFrame) : arrive l f m = judge l f m := by
  simp [arrive, h]

end

/-- The tag of a malformed frame, or 0 where it held none (R180). -/
theorem malformed_tag (bytes : List Byte) : (RxFrame.malformed bytes).tag = (bytes.drop 3).headD 0 := by
  simp [RxFrame.tag, byteAt, List.getD_eq_getElem?_getD, List.headD_eq_head?_getD]

theorem silence_becomes {l : Line} {s : State} {m : Part} (h : silence l s.part = m) : Becomes (.receiveSilence l) s m :=
  h ▸ rfl

/-- Settles O18: in each state of assembly, and for a frame that ends, with and without room. -/
theorem silenceEndsFrames : Obligations.SilenceEndsFrames := by
  intro l s
  refine ⟨fun hunheard => silence_becomes (silence_unheard hunheard), fun hlistening =>
    ⟨fun hbetween => silence_becomes (silence_between hbetween), fun hoverrun => silence_becomes (silence_overrun hlistening hoverrun),
      fun bytes hbytes hrx => ?_⟩⟩
  have hends := silence_ends hlistening hbytes hrx
  have hsame : (s.part.assemble l (.collecting [])).hasRoom l = s.part.hasRoom l := hasRoom_assemble _
  refine ⟨fun hfull => ?_, fun hroom hradio => ?_, fun p hport hroom => ?_⟩
  · exact silence_becomes (hends.trans ((arrive_full (hsame.trans hfull) _).trans (Part.onLink_onLink ..)))
  · subst hradio
    rw [← malformed_tag]
    exact silence_becomes (hends.trans (arrive_room (hsame.trans hroom) _))
  · subst hport
    rw [← malformed_tag]
    exact silence_becomes (hends.trans ((arrive_room (hsame.trans hroom) _).trans
      ((judge_portLine ..).trans (serveHost_badFrame p rfl _))))

/-! A byte (R179, R183) -/

section
variable {l : Line} {m : Part}

theorem receiveByte_unheard (h : m.listening l = false) (b : Byte) : receiveByte l m b = m := by simp [receiveByte, h]

/-- A byte in an overrun, or after an out-of-range length, is discarded. -/
theorem receiveByte_discarded (h : ∀ bytes, (m.link l).rx ≠ .collecting bytes) (b : Byte) : receiveByte l m b = m := by
  unfold receiveByte
  split
  · cases hrx : (m.link l).rx with
    | collecting bytes => exact absurd hrx (h bytes)
    | badLength | overrun => rfl
  · rfl

variable (hlistening : m.listening l = true) {bytes : List Byte} (hrx : (m.link l).rx = .collecting bytes)

include hlistening hrx

theorem receiveByte_held {f : RxFrame} (h : (m.link l).held = some f) (b : Byte) : receiveByte l m b = startOverrun l m := by
  simp [receiveByte, hlistening, hrx, h]

theorem receiveByte_joins (h : (m.link l).held = none) (b : Byte) : receiveByte l m b = collect l (bytes ++ [b]) m := by
  simp [receiveByte, hlistening, hrx, h]

end

theorem startOverrun_portLine (p : HostPort) (m : Part) : startOverrun (portLine p) m =
    (m.onLink (portLine p) (fun k => { k with rx := .overrun })).setLocal p evLinkFault := by
  cases p <;> rfl

/-- The second byte settles the length field (R178, R179). -/
theorem collect_length (l : Line) (a b : Byte) (m : Part) : collect l [a, b] m = m.assemble l
    (if a.toNat * 256 + b.toNat < 2 ∨ 64 < a.toNat * 256 + b.toNat then .badLength [a, b] else .collecting [a, b]) := by
  have hfield : u16 [a, b] 0 = a.toNat * 256 + b.toNat := rfl
  split_ifs with hrange
  · rw [← hfield, ← lengthOutOfRange_iff] at hrange
    simp [collect, hrange]
  · rw [← hfield, ← lengthOutOfRange_iff, Bool.not_eq_true] at hrange
    exact collect_open fun _ => ⟨hrange, by simp⟩

theorem byte_becomes {l : Line} {b : Byte} {s : State} {m : Part} (h : receiveByte l s.part b = m) : Becomes (.overrun l b) s m :=
  h ▸ rfl

/-- Settles O19: a byte is discarded, starts an overrun, or joins the frame under assembly. -/
theorem bytesWhileAFrameIsHeld : Obligations.BytesWhileAFrameIsHeld := by
  intro l b s
  refine ⟨fun hunheard => byte_becomes (receiveByte_unheard hunheard b), fun hlistening =>
    ⟨fun hrx => byte_becomes (receiveByte_discarded (by simp [hrx]) b),
      fun _ hrx => byte_becomes (receiveByte_discarded (by simp [hrx]) b), fun bytes hrx => ⟨fun f hheld hradio => ?_,
        fun f p hheld hport => ?_, fun hheld => ?_⟩⟩⟩
  · subst hradio
    exact byte_becomes (receiveByte_held hlistening hrx hheld b)
  · subst hport
    exact byte_becomes ((receiveByte_held hlistening hrx hheld b).trans (startOverrun_portLine ..))
  · have hjoins := receiveByte_joins hlistening hrx hheld b
    refine ⟨?_, ?_, ?_⟩
    · rintro rfl
      exact byte_becomes (hjoins.trans (collect_open fun h => absurd h (by simp)))
    · rintro a rfl
      exact byte_becomes (hjoins.trans (collect_length ..))
    · rintro x y rest rfl hleast hgreatest hmore
      have hfield : u16 (x :: y :: rest ++ [b]) 0 = x.toNat * 256 + y.toNat := rfl
      refine byte_becomes (hjoins.trans (collect_open fun _ => ?_))
      rw [hfield, Bool.eq_false_iff, ne_eq, lengthOutOfRange_iff]
      simp only [List.length_append, List.length_cons, List.length_nil]
      omega

/-! Held frames and the transmit side (R182, R183) -/

/-- The responses to requests that an output queue has places for; on the radio port, the answers (R182, R183). -/
theorem Part.hasRoom_iff (m : Part) (l : Line) : m.hasRoom l = true ↔ (m.link l).waiting < if l = .radio then 4 else 8 := by
  cases l <;> exact decide_eq_true_iff

theorem hasRoom_eq_false {m : Part} {l : Line} (h : (if l = .radio then 4 else 8) ≤ (m.link l).waiting) : m.hasRoom l = false := by
  rw [Bool.eq_false_iff, ne_eq, m.hasRoom_iff]
  exact not_lt.mpr h

/-- A frame command whose frame ends while the output queue is full (R182, R183). -/
theorem frame_held {c : Instr} {l : Line} {f : RxFrame} (hc : frameOfCommand c = some (l, f)) {s : State}
    (hlistening : s.part.listening l = true) (hbetween : s.part.betweenFrames l = true)
    (hfull : (if l = .radio then 4 else 8) ≤ (s.part.link l).waiting) (hfits : f.fits = true) :
    Becomes c s (s.part.onLink l (fun k => { k with held := some f })) := by
  rw [Becomes, exec_frame_judged hc, act_next, frameEvent_full hlistening hbetween (hasRoom_eq_false hfull) hfits]

theorem portLine_limit (p : HostPort) : (if portLine p = .radio then 4 else 8) = 8 := by cases p <;> rfl

theorem frameOfCommand_commandOf {p : HostPort} {r : Request} (hr : r ∈ portRequests p) (tag : Byte) (body : List Byte) :
    frameOfCommand (commandOf r p tag body) = some (portLine p, .sound (requestCode r) tag body) := by
  cases r
  case readMember | readStrangers | queryMembers | clearEvents | setMask | readState => rfl
  case startRoute | endRoute | openStop | closeStop | readStop | skipSweep | readSweep | acknowledgeAlert | readAlert
      | setPass =>
    cases port_eq_cab hr (by decide)
    rfl
  case beginLoad | loadStop | loadMember | loadProfile | loadClass | finishLoad | clearRoute | beginUpload | nextBatch
      | confirmBatch | rejectBatch | clearTamper =>
    cases port_eq_depot hr (by decide)
    rfl

section
variable {l : Line} {m : Part}

theorem transmitted_idle (h : (m.link l).out = []) : transmitted l m = m := by
  unfold transmitted
  rw [h]

variable {r : Response} {rest : List Response} (hout : (m.link l).out = r :: rest)

include hout

theorem transmitted_head : transmitted l m =
    releaseHeld l (m.onLink l (fun k => { k with out := rest, sent := responseBytes r })) := by
  unfold transmitted
  rw [hout]

theorem transmitted_unheld (h : (m.link l).held = none) :
    transmitted l m = m.onLink l (fun k => { k with out := rest, sent := responseBytes r }) := by
  rw [transmitted_head hout]
  simp [releaseHeld, h]

variable {f : RxFrame} (hheld : (m.link l).held = some f)

include hheld

/-- A held frame arrives when a place is free (R182). -/
theorem transmitted_releases (h : rest.countP (fun q => !q.scan) < if l = .radio then 4 else 8) :
    transmitted l m = judge l f (m.onLink l (fun k => { k with out := rest, sent := responseBytes r, held := none })) := by
  have hroom : (m.onLink l (fun k => { k with out := rest, sent := responseBytes r })).hasRoom l = true := by
    rw [Part.hasRoom_iff, Part.link_onLink]
    exact h
  rw [transmitted_head hout]
  simp [releaseHeld, hheld, hroom, Part.onLink_onLink]

theorem transmitted_holds (h : ¬ rest.countP (fun q => !q.scan) < if l = .radio then 4 else 8) :
    transmitted l m = m.onLink l (fun k => { k with out := rest, sent := responseBytes r }) := by
  have hfull : (m.onLink l (fun k => { k with out := rest, sent := responseBytes r })).hasRoom l = false := by
    rw [Bool.eq_false_iff, ne_eq, Part.hasRoom_iff, Part.link_onLink]
    exact h
  rw [transmitted_head hout]
  simp [releaseHeld, hheld, hfull]

end

theorem transmission_becomes {l : Line} {s : State} (halive : s.part.alive = true) {m : Part} (h : transmitted l s.part = m) :
    Becomes (.transmitCompletion l) s m := h ▸ act_alive halive (transmitted l)

/-- Settles O20: every frame command that finds the queue full is held; a transmission frees its place for the held frame. -/
theorem heldFramesAndTransmitCompletion : Obligations.HeldFramesAndTransmitCompletion := by
  refine ⟨fun s => ⟨fun p hlistening hbetween hfull => ?_, fun hlistening hbetween hfull => ?_⟩, fun l s halive =>
    ⟨fun hidle => transmission_becomes halive (transmitted_idle hidle), fun r rest hout =>
      ⟨fun hheld => transmission_becomes halive (transmitted_unheld hout hheld), fun f hheld =>
        ⟨fun hroom => transmission_becomes halive (transmitted_releases hout hheld hroom),
          fun hfull => transmission_becomes halive (transmitted_holds hout hheld hfull)⟩⟩⟩⟩
  · rw [← portLine_limit p] at hfull
    exact ⟨fun r tag body hr hbody =>
        frame_held (frameOfCommand_commandOf hr tag body) hlistening hbetween hfull (sound_fits hbody),
      fun code tag body hbody => frame_held rfl hlistening hbetween hfull (sound_fits hbody),
      fun f hfits => frame_held rfl hlistening hbetween hfull hfits⟩
  · intro holding tag body check hbody
    have hfits : ∀ code, (RxFrame.byLength code tag body check).fits = true := fun _ => decide_eq_true hbody
    exact ⟨frame_held rfl hlistening hbetween hfull (hfits _), fun code => frame_held rfl hlistening hbetween hfull (hfits _)⟩

end Sys2Proof.Machine
end

section
/-! SUPPORT. The event views and alert lines, READ STATE, and the state after reset (R189 to R191, R193 to R195). -/

namespace Sys2Proof.Machine

/-! Requests on a line that is not taken -/

/-- On a line that is not taken a request is discarded with no response (R184). -/
theorem request_unheard {p : HostPort} {r : Request} (hr : r ∈ portRequests p) {s : State}
    (h : s.part.listening (portLine p) = false) (tag : Byte) (body : List Byte) : Becomes (commandOf r p tag body) s s.part := by
  rw [Becomes, exec_request hr, act_next, frameEvent_bytes (by rw [h]; rfl), receiveFrame_unheard h]

/-! READ STATE (R193) -/

theorem meets_eq_decide {w : Nat} (a b : BitVec w) : meets a b = decide (a &&& b ≠ 0) := by
  rw [Bool.eq_iff_iff, decide_eq_true_iff, meets, bne_iff_ne]

theorem serveReadState_refused {body : List Byte} (h : body ≠ []) (p : HostPort) (tag : Byte) (m : Part) :
    serveReadState p tag body m = m.refuse p tag .badValue := by
  obtain ⟨b, rest, rfl⟩ := List.exists_cons_of_ne_nil h
  rfl

/-- Settles O53: the request is discarded, refused, or answered with the report, whose figures are the state's. -/
theorem readStateReportsEveryFigure : Obligations.ReadStateReportsEveryFigure := by
  have hknown : ∀ p, Request.readState ∈ portRequests p := by rintro (_ | _) <;> decide
  refine ⟨fun p tag body s => ⟨fun hunheard => request_unheard (hknown p) hunheard tag body, fun hready hbody hfits =>
    request_becomes (hknown p) hready hfits (serveReadState_refused hbody p tag s.part)⟩, fun m hdock => ?_,
    fun p tag s hready => request_becomes (hknown p) hready (by decide) ?_⟩
  · simp [Part.listening, hdock]
  · rw [← Part.view, ← meets_eq_decide]
    rfl

/-! Event views and alert lines (R189 to R191) -/

theorem eventsOf_length {p : HostPort} {body : List Byte} {e : EventSet} (h : eventsOf p body = some e) : body.length = 2 := by
  unfold eventsOf at h
  split_ifs at h with hlength
  exact hlength

/-- Clearing takes the named events out of the asking port's view (R189). -/
theorem Part.view_clearEvents (p : HostPort) (e : EventSet) (m : Part) : (m.clearEvents p e).view p = without (m.view p) e := by
  rw [Part.view, Part.view, without_or]
  cases p <;> rfl

theorem Part.mask_clearEvents (p : HostPort) (e : EventSet) (m : Part) : ((m.clearEvents p e).port p).mask = (m.port p).mask := by
  cases p <;> rfl

theorem serveClearEvents_named {p : HostPort} {body : List Byte} {e : EventSet} (h : eventsOf p body = some e) (tag : Byte)
    (m : Part) : serveClearEvents p tag body m =
      (m.clearEvents p e).answer p tag .ok (.events (without (m.view p) e) (m.port p).mask) := by
  rw [← Part.view_clearEvents, ← Part.mask_clearEvents p e]
  simp only [serveClearEvents, h]

theorem serveSetMask_named {p : HostPort} {body : List Byte} {e : EventSet} (h : eventsOf p body = some e) (tag : Byte)
    (m : Part) : serveSetMask p tag body m =
      (m.onPort p (fun k => { k with mask := e })).answer p tag .ok (.events (m.view p) e) := by
  simp only [serveSetMask, h]

/-- Settles O55: the alert line is the meeting of view and mask; both requests answer with the view and the mask they leave. -/
theorem eventsClearedAndMasked : Obligations.EventsClearedAndMasked := by
  refine ⟨fun m p => meets_iff, fun p tag body e s hready he => ?_⟩
  have hfits : body.length + 2 ≤ 64 := by
    rw [eventsOf_length he]
    decide
  exact ⟨request_becomes (r := .clearEvents) (by cases p <;> decide) hready hfits (serveClearEvents_named he tag s.part),
    request_becomes (r := .setMask) (by cases p <;> decide) hready hfits (serveSetMask_named he tag s.part)⟩

/-! The state after a cold start (R195) -/

section
variable (cab depot dock reset : Bool) (choices : Nat)

theorem cold_eventsLegal : (Part.cold cab depot dock reset choices).EventsLegal :=
  eventsLegal_of_clear rfl fun p => by cases p <;> exact ⟨rfl, rfl⟩

theorem cold_listsWithin : (Part.cold cab depot dock reset choices).ListsWithin :=
  ⟨Nat.zero_le _, Nat.zero_le _, Nat.zero_le _, Nat.zero_le _⟩

theorem cold_tablesCanonical : (Part.cold cab depot dock reset choices).TablesCanonical :=
  Part.tablesCanonical_iff.mpr ⟨tablesFit_of_empty rfl rfl rfl rfl rfl, nofun⟩

theorem cold_keysTrue : (Part.cold cab depot dock reset choices).KeysTrue :=
  ⟨Table.canonical_nil, nofun, List.nodup_nil⟩

theorem cold_books :
    (Part.cold cab depot dock reset choices).SweepTrue ∧ (Part.cold cab depot dock reset choices).StoreTrue :=
  (Part.books_iff (cold_keysTrue ..)).mp (Part.books_empty rfl rfl rfl)

theorem cold_loadingTrue : (Part.cold cab depot dock reset choices).LoadingTrue :=
  Part.Blank.loadingTrue ⟨rfl, rfl, rfl, rfl, rfl, rfl, rfl, rfl, rfl, rfl⟩ rfl rfl rfl rfl

theorem cold_orderTrue : (Part.cold cab depot dock reset choices).OrderTrue :=
  orderTrue_of_no_order (orderless_of_eq (q := .empty) rfl) rfl rfl ⟨nofun, nofun⟩

theorem cold_tree (k : Key) : (Part.cold cab depot dock reset choices).strangers.tree k = ⟨false, false, false⟩ := by
  simp [Strangers.tree, Part.cold]

end

/-- Settles O2: every invariant holds of a part whose tables are empty, and the values are those of the cold start. -/
theorem resetMeetsTheInvariants : Obligations.ResetMeetsTheInvariants := by
  obtain ⟨hsweep, hstore⟩ := cold_books false false false false 0
  refine ⟨cold_eventsLegal .., intakeFrozen_of_frozen Intake.frozen_empty,
    Part.withinPlaces_iff.mpr ⟨cold_listsWithin .., cold_portsWithin ..⟩, cold_tablesCanonical .., ⟨Table.canonical_nil, rfl⟩,
    .of_empty rfl, cold_keysTrue .., hsweep, hstore, Part.slotsTrue_iff.mpr Stops.agree_empty,
    Part.batchesTrue_iff.mpr (.of_no_batch rfl (Nat.zero_le _)), cold_loadingTrue .., strangersTrue_of_no_entry rfl rfl,
    cold_orderTrue .., rfl, rfl, rfl, rfl, rfl, rfl, rfl, rfl, cold_tree _ _ _ _ _, fun l => ?_, rfl, rfl, rfl, rfl, rfl, rfl,
    fun p => ?_, rfl⟩
  · cases l <;> rfl
  · cases p <;> exact ⟨rfl, rfl, rfl, rfl, rfl⟩

end Sys2Proof.Machine
end

section
/-! SUPPORT. Outstanding batches returned all at once, the dock line and the port resets (R172 to R174, R184, R198, R199). -/

namespace Sys2Proof.Machine

/-! The items of one part in another -/

/-- A part with the upload states of another: reading records, stranger entries, and the order. -/
def Part.withItems (m n : Part) : Part :=
  { m with
    store := n.store
    strangers := { m.strangers with entries := n.strangers.entries }
    upload := { m.upload with order := n.upload.order } }

def Part.withBatches (batches : List Batch) (m : Part) : Part := { m with upload := { m.upload with batches := batches } }

/-- Writing an upload state reads and writes upload states alone. -/
theorem setItem_withItems (u : UploadState) (batch : Option Nat) (m n : Part) (k : Nat) :
    (m.withItems n).setItem u batch k = m.withItems (n.setItem u batch k) := by
  have hitems : (m.withItems n).upload.items = n.upload.items := rfl
  unfold Part.setItem
  rw [hitems]
  split <;> rfl

theorem setItems_withItems (u : UploadState) (batch : Option Nat) (numbers : List Nat) (m n : Part) :
    (m.withItems n).setItems u batch numbers = m.withItems (n.setItems u batch numbers) :=
  List.foldl_hom m.withItems fun n k => setItem_withItems u batch m n k

theorem setItems_append (u : UploadState) (batch : Option Nat) (a b : List Nat) (m : Part) :
    m.setItems u batch (a ++ b) = (m.setItems u batch a).setItems u batch b := List.foldl_append

/-- A change that leaves the upload states aside goes through the writing of them. -/
theorem setItems_comm {f : Part → Part} (hf : ∀ m k : Part, f (m.withItems k) = (f m).withItems k) (u : UploadState)
    (batch : Option Nat) (numbers : List Nat) (m : Part) : (f m).setItems u batch numbers = f (m.setItems u batch numbers) :=
  calc (f m).setItems u batch numbers
    _ = ((f m).withItems m).setItems u batch numbers := by rw [← hf]; rfl
    _ = (f m).withItems (m.setItems u batch numbers) := setItems_withItems ..
    _ = f (m.withItems (m.setItems u batch numbers)) := (hf ..).symm
    _ = f (m.setItems u batch numbers) := by rw [← setItems_withItems]; rfl

/-- Returning batches moves all their items to FRESH, and takes the batches out of the table (R167). -/
theorem returnEach_eq (l : List Batch) (m : Part) : l.foldl (fun m b => m.returnBatch b) m =
    (m.setItems .fresh none (l.flatMap Batch.items)).withBatches
      (m.upload.batches.filter (fun b => b.number ∉ l.map Batch.number)) := by
  induction l generalizing m with
  | nil => simp [Part.setItems, Part.withBatches]
  | cons b rest ih =>
    rw [List.foldl_cons, ih, Part.returnBatch, setItems_comm (f := Part.retire b.number) fun _ _ => rfl,
      retired_batches, List.filter_filter, ← setItems_append]
    simp only [Part.withBatches, Part.retire, List.flatMap_cons, List.map_cons, List.mem_cons]
    congr 3
    funext x
    rw [Bool.eq_iff_iff]
    simp [and_comm]

/-- Every batch returned: their items are FRESH, and no batch is outstanding (R172, R174). -/
theorem returnBatches_eq (m : Part) :
    m.returnBatches = (m.setItems .fresh none (m.upload.batches.flatMap Batch.items)).withBatches [] := by
  rw [Part.returnBatches, returnEach_eq]
  congr 1
  refine List.filter_eq_nil_iff.mpr fun b hb => ?_
  simpa using ⟨b, hb, rfl⟩

theorem returnBatches_moves (m : Part) :
    m.ItemsMoved m.returnBatches (m.upload.batches.flatMap Batch.items) .fresh none := by
  rw [returnBatches_eq]
  exact (setItems_moves ..).itemsMoved [] _

theorem returnBatches_batches (m : Part) : m.returnBatches.upload.batches = [] := by
  rw [returnBatches_eq]
  rfl

theorem returnBatches_counter (m : Part) : m.returnBatches.upload.counter = m.upload.counter := by
  rw [returnBatches_eq]
  exact (setItems_moves ..).counter

/-- A broken link returns every outstanding batch, and BATCH_RETURNED is set if there was one (R172, R173). -/
theorem breakLink_eq (m : Part) :
    m.breakLink = if m.upload.batches = [] then m.returnBatches else m.returnBatches.setShared evBatchReturned := by
  by_cases h : m.upload.batches = []
  · simp [Part.breakLink, Part.returnBatches, h]
  · simp [Part.breakLink, h]

/-- What a broken link makes of a part, as the dock line and the depot port's reset ask for it. -/
theorem breakLink_moves (m : Part) : ∃ n : Part, m.ItemsMoved n (m.upload.batches.flatMap Batch.items) .fresh none ∧
    n.upload.batches = [] ∧ n.upload.counter = m.upload.counter ∧
    m.breakLink = if m.upload.batches = [] then n else n.setShared evBatchReturned :=
  ⟨_, returnBatches_moves m, returnBatches_batches m, returnBatches_counter m, breakLink_eq m⟩

/-! The dock line (R184) -/

section
variable {m : Part}

theorem dock_alive (h : m.alive = true) : m.dock = Part.setLocal .depot evDocked
    { m with ports := { m.ports with dockLine := true, dock := .docked } } := by
  simp [Part.dock, h, Part.sampleDock]

theorem dock_not_alive (h : m.alive = false) : m.dock = { m with ports := { m.ports with dockLine := true } } := by
  simp [Part.dock, h]

theorem undock_alive (h : m.alive = true) : m.undock = Part.breakLink { m with ports := { m.ports with
    dockLine := false
    dock := .undocked
    depot := { m.ports.depot with scan := none, link := m.ports.depot.link.emptied } } } := by
  simp [Part.undock, h, Part.sampleDock, Part.onPort]

theorem undock_not_alive (h : m.alive = false) : m.undock = { m with ports := { m.ports with dockLine := false } } := by
  simp [Part.undock, h]

end

/-- A command's meaning, given as what it makes of the part. -/
theorem becomes_of_act {c : Instr} {s : State} {f : Part → Part} (hc : exec c s = act f s) {m : Part} (h : f s.part = m) :
    Becomes c s m := h ▸ hc

/-- Settles O56: each edge with the part running and not; a falling breaks the depot's link. -/
theorem dockLineMoves : Obligations.DockLineMoves := by
  refine fun s => ⟨fun hstill => ⟨becomes_of_act rfl (dock_not_alive hstill), becomes_of_act rfl (undock_not_alive hstill)⟩,
    fun halive => ⟨becomes_of_act rfl (dock_alive halive), ?_⟩⟩
  obtain ⟨n, hmoved, hbatches, hcounter, hbroken⟩ := breakLink_moves { s.part with ports := { s.part.ports with
    dockLine := false
    dock := .undocked
    depot := { s.part.ports.depot with scan := none, link := s.part.ports.depot.link.emptied } } }
  exact ⟨n, hmoved, hbatches, hcounter, becomes_of_act rfl ((undock_alive halive).trans hbroken)⟩

/-! The port resets (R198, R199) -/

/-- The cab port cleared, its reset line held, PASS off. -/
def Part.cabHeld (m : Part) : Part :=
  { m with
    tamper := { m.tamper with pass := false }
    ports := { m.ports with cab := ⟨m.ports.cab.link.emptied, 0, 0, none, true⟩ } }

/-- The depot port cleared, its reset line held. -/
def Part.depotHeld (m : Part) : Part :=
  { m with ports := { m.ports with depot := ⟨m.ports.depot.link.emptied, 0, 0, none, true⟩ } }

section
variable {m : Part}

theorem resetCab_alive (h : m.alive = true) : m.resetCab = m.cabHeld := by
  rw [Part.resetCab, if_pos h]
  rfl

theorem resetCab_not_alive (h : m.alive = false) : m.resetCab = m.onPort .cab (fun q => { q with resetHeld := true }) := by
  simp [Part.resetCab, h]

theorem resetDepot_alive (h : m.alive = true) : m.resetDepot = m.depotHeld.breakLink := by
  rw [Part.resetDepot, if_pos h]
  rfl

theorem resetDepot_not_alive (h : m.alive = false) :
    m.resetDepot = m.onPort .depot (fun q => { q with resetHeld := true }) := by
  simp [Part.resetDepot, h]

end

theorem returnBatches_cabHeld (m : Part) : m.cabHeld.returnBatches = m.returnBatches.cabHeld := by
  rw [returnBatches_eq, returnBatches_eq, setItems_comm fun _ _ => rfl]
  rfl

/-- The cab's port and PASS have no part in the depot's link. -/
theorem breakLink_cabHeld (m : Part) : m.cabHeld.breakLink = m.breakLink.cabHeld := by
  have hbatches : m.cabHeld.upload.batches = m.upload.batches := rfl
  rw [breakLink_eq, breakLink_eq, returnBatches_cabHeld, hbatches]
  split_ifs <;> rfl

theorem Part.breakLink_power (m : Part) : m.breakLink.power = m.power := by
  obtain ⟨n, ⟨_, _, _, _, _, _, _, hpower, _⟩, _, _, h⟩ := breakLink_moves m
  rw [h]
  split_ifs <;> exact hpower

/-- The port resets may be made in either order (R198, R199). -/
theorem resets_comm (m : Part) : m.resetCab.resetDepot = m.resetDepot.resetCab := by
  cases halive : m.alive with
  | false =>
    have hcab : m.resetCab.alive = false := by rw [resetCab_not_alive halive]; exact halive
    have hdepot : m.resetDepot.alive = false := by rw [resetDepot_not_alive halive]; exact halive
    rw [resetDepot_not_alive hcab, resetCab_not_alive hdepot, resetCab_not_alive halive, resetDepot_not_alive halive]
    rfl
  | true =>
    have hcab : m.resetCab.alive = true := by rw [resetCab_alive halive]; exact halive
    have hdepot : m.resetDepot.alive = true := by
      rw [resetDepot_alive halive, Part.alive, Part.breakLink_power]
      exact halive
    rw [resetDepot_alive hcab, resetCab_alive hdepot, resetCab_alive halive, resetDepot_alive halive]
    exact breakLink_cabHeld m.depotHeld

/-- Settles O57: an assertion clears its own port, and the resets commute whether the part runs or not. -/
theorem portResetsClearTheirPort : Obligations.PortResetsClearTheirPort := by
  refine ⟨fun s => ⟨fun halive => ⟨becomes_of_act rfl (resetCab_alive halive), ?_⟩, rfl, rfl⟩, ?_⟩
  · obtain ⟨n, hmoved, hbatches, hcounter, hbroken⟩ := breakLink_moves s.part.depotHeld
    exact ⟨n, hmoved, hbatches, hcounter, becomes_of_act rfl ((resetDepot_alive halive).trans hbroken)⟩
  · rintro s t u ⟨⟩ ⟨⟩
    exact congrArg (fun m => Host.Outcome.next { s with part := m }) (resets_comm s.part)

end Sys2Proof.Machine
end

section
/-! SUPPORT. Power and RESET: what a warm restart closes, returns and clears (R107, R128, R174, R194 to R197). -/

namespace Sys2Proof.Machine

/-! What a close reads and writes -/

/-- A part with other ports and, of `m`, all that a close reads or writes there: PASS is none of it. -/
def Part.withClose (base : Part) (ports : Ports) (m : Part) : Part :=
  { base with
    ports := ports
    route := m.route
    dir := m.dir
    stops := m.stops
    store := m.store
    tamper := { m.tamper with pass := base.tamper.pass } }

def Closing.withClose (base : Part) (ports : Ports) (c : Closing) : Closing := { c with part := base.withClose ports c.part }

/-- One part stands where a close has brought the other, ports aside. -/
def ClosesAs (base m n : Part) : Prop := ∃ ports, n = base.withClose ports m

section
variable (base : Part) (ports : Ports)

theorem setReadState_withClose (p : Nat) (r : ReadState) (m : Part) :
    (base.withClose ports m).setReadState p r = base.withClose ports (m.setReadState p r) := by
  have hdir : (base.withClose ports m).dir = m.dir := rfl
  unfold Part.setReadState
  rw [hdir]
  split <;> rfl

theorem dropMember_withClose (c : Closing) (e : Nat × Member) :
    dropMember (c.withClose base ports) e = (dropMember c e).withClose base ports := by
  simp only [dropMember, Closing.withClose, setReadState_withClose]

theorem carryMember_withClose (c : Closing) (e : Nat × Member) :
    carryMember (c.withClose base ports) e = (carryMember c e).withClose base ports := by
  have hstops : (base.withClose ports c.part).stops = c.part.stops := rfl
  simp only [carryMember, Closing.withClose, setReadState_withClose, hstops]
  split_ifs <;> rfl

end

namespace ClosesAs

variable {base m n : Part}

theorem disposeMembers (h : ClosesAs base m n) (stop : Nat) (drop : Bool) :
    ClosesAs base (m.disposeMembers stop drop).part (n.disposeMembers stop drop).part := by
  obtain ⟨ports, rfl⟩ := h
  have hunread : (base.withClose ports m).unreadOf stop = m.unreadOf stop := rfl
  have hstart : (⟨base.withClose ports m, 0, 0⟩ : Closing) = Closing.withClose base ports ⟨m, 0, 0⟩ := rfl
  have hmissed : ∀ c : Closing, (c.withClose base ports).missed = c.missed := fun _ => rfl
  unfold Part.disposeMembers
  rw [hunread, hstart, List.foldl_hom (Closing.withClose base ports) (dropMember_withClose base ports),
    List.foldl_hom (Closing.withClose base ports) (carryMember_withClose base ports)]
  dsimp only
  rw [hmissed]
  split_ifs
  · exact ⟨ports, rfl⟩
  · exact ⟨ports, rfl⟩
  · exact ⟨_, rfl⟩

theorem offerAlert (h : ClosesAs base m n) (a : Alert) : ClosesAs base (m.offerAlert a) (n.offerAlert a) := by
  obtain ⟨ports, rfl⟩ := h
  by_cases hroom : m.tamper.alerts.length < 32
  · rw [Part.offerAlert_queued hroom, Part.offerAlert_queued (m := base.withClose ports m) hroom]
    exact ⟨_, rfl⟩
  · rw [Part.offerAlert_lost hroom, Part.offerAlert_lost (m := base.withClose ports m) hroom]
    exact ⟨_, rfl⟩

theorem reportDeferred (h : ClosesAs base m n) (e : Nat × Member) :
    ClosesAs base (m.reportDeferred e) (n.reportDeferred e) := by
  obtain ⟨ports, rfl⟩ := h
  exact offerAlert ⟨ports, rfl⟩ (m.deferredAlert e.2)

theorem reportStop (h : ClosesAs base m n) (stop : Nat) : ClosesAs base (m.reportStop stop) (n.reportStop stop) := by
  have hdir : n.dir = m.dir := by
    obtain ⟨_, rfl⟩ := h
    rfl
  unfold Part.reportStop
  rw [hdir]
  exact List.foldl_rel h fun e _ _ _ h => h.reportDeferred e

theorem closeStop (h : ClosesAs base m n) (r : Stop) (drop : Bool) :
    ClosesAs base (m.closeStop r drop).part (n.closeStop r drop).part := by
  obtain ⟨ports, hdisposed⟩ := h.disposeMembers r.number drop
  refine reportStop (m := (m.disposeMembers r.number drop).part.onStops (Stops.shut r)) ⟨ports, ?_⟩ r.number
  rw [hdisposed]
  rfl

theorem closeLingering (h : ClosesAs base m n) : ClosesAs base m.closeLingering n.closeLingering := by
  have hstops : n.stops = m.stops := by
    obtain ⟨_, rfl⟩ := h
    rfl
  unfold Part.closeLingering
  rw [hstops]
  exact List.foldl_rel h fun r _ _ _ h => h.closeStop r false

end ClosesAs

/-! The stops in LINGER, closed one after another (R107, R128) -/

/-- A stop's record once the stop is closed (R114). -/
def Stop.shut (q : Stop) : Stop := { q with state := .closed, slot := none }

theorem closeStop_stop_self (r : Stop) (drop : Bool) (m : Part) :
    (m.closeStop r drop).part.stop r.number = (m.stop r.number).map Stop.shut := by
  obtain ⟨sweep, h⟩ := closeStop_stops r drop m
  rw [Part.stop, h]
  exact (congrArg (Table.find · r.number) (Stops.shut_records r m.stops)).trans ((Table.find_modify ..).trans (if_pos rfl))

/-- A stop's record once these stops have been closed. -/
theorem closeEach_stop (l : List Stop) (n : Nat) (m : Part) : (l.foldl (fun m r => (m.closeStop r false).part) m).stop n =
    if n ∈ l.map Stop.number then (m.stop n).map Stop.shut else m.stop n := by
  induction l generalizing m with
  | nil => rfl
  | cons r rest ih =>
    rw [List.foldl_cons, ih, List.map_cons]
    by_cases hn : n = r.number
    · have htwice : Stop.shut ∘ Stop.shut = Stop.shut := rfl
      rw [hn, closeStop_stop_self, Option.map_map, htwice, ite_self, if_pos List.mem_cons_self]
    · rw [closeStop_stop_of_ne hn]
      simp only [List.mem_cons, hn, false_or]

section
variable {m : Part} (h : m.stops.Agree)

include h

/-- A record in LINGER is one of the stops that a warm restart closes. -/
theorem Stops.Agree.mem_lingering {n : Nat} {r : Stop} (hr : m.stop n = some r) (hlingering : r.state = .lingering) :
    n ∈ m.stops.lingering.map Stop.number := by
  refine List.mem_map.mpr ⟨r, List.mem_filter.mpr ⟨List.mem_map_of_mem (Table.mem_of_find hr), ?_⟩, (h.fits n r hr).number⟩
  rw [hlingering]
  rfl

/-- A stop in LINGER is CLOSED by a warm restart (R107). -/
theorem closeLingering_closes {r : Stop} (hr : r ∈ m.stops.lingering) :
    ∃ q, m.closeLingering.stop r.number = some q ∧ q.state = .closed := by
  have hfind : m.stop r.number = some r := (h.lingering.2 r hr).1
  rw [Part.closeLingering, closeEach_stop, if_pos (List.mem_map_of_mem hr), hfind]
  exact ⟨_, rfl, rfl⟩

theorem closeLingering_not_lingering {e : Nat × Stop} (he : e ∈ m.closeLingering.stops.records) :
    e.2.state ≠ .lingering := by
  intro hlingering
  have hfind : m.closeLingering.stop e.1 = some e.2 := (closeLingering_agree h).canonical.find_of_mem he
  rw [Part.closeLingering, closeEach_stop] at hfind
  split_ifs at hfind with hmem
  · obtain ⟨q, _, hq⟩ := Option.map_eq_some_iff.mp hfind
    rw [← hq] at hlingering
    cases hlingering
  · exact hmem (h.mem_lingering hfind hlingering)

/-- The records in LINGER stand in ascending stop number (R107). -/
theorem Stops.Agree.lingering_ascending :
    (m.stops.records.filter (fun e => e.2.state == .lingering)).Pairwise (fun a b => a.2.number < b.2.number) := by
  have hnumber : ∀ e ∈ m.stops.records.filter (fun e => e.2.state == .lingering), e.2.number = e.1 := fun e he =>
    (h.fits _ _ (h.canonical.find_of_mem (List.mem_filter.mp he).1)).number
  refine ((List.pairwise_map.mp h.canonical).filter _).imp_of_mem fun ha hb hlt => ?_
  rw [hnumber _ ha, hnumber _ hb]
  exact hlt

end

theorem lingering_eq (u : Stops) : u.lingering = (u.records.filter (fun e => e.2.state == .lingering)).map Prod.snd :=
  List.filter_map ..

theorem closeLingering_eq (m : Part) : m.closeLingering =
    (m.stops.records.filter (fun e => e.2.state == .lingering)).foldl (fun n e => (n.closeStop e.2 false).part) m := by
  rw [Part.closeLingering, lingering_eq, List.foldl_map]

/-! The warm restart (R197) -/

/-- Where upload states and batches are the same, so is what the return of every batch makes of them. -/
theorem returnBatches_of_sameItems {m n : Part} (h : SameItems m n) : n.returnBatches = { n with
    store := m.returnBatches.store
    strangers := m.returnBatches.strangers
    upload := m.returnBatches.upload } := by
  have hitems : n.withItems m = n := by rw [Part.withItems, ← h.store, ← h.strangers, ← h.upload]
  have hmoved : ∀ k : Part, k.withItems m = k → k.setItems .fresh none (m.upload.batches.flatMap Batch.items) =
      k.withItems (m.setItems .fresh none (m.upload.batches.flatMap Batch.items)) := fun k hk => by
    rw [← setItems_withItems, hk]
  rw [returnBatches_eq, returnBatches_eq, h.upload, hmoved n hitems, hmoved m rfl]
  simp only [Part.withItems, Part.withBatches, h.upload, h.strangers]

/-- The stops in LINGER closed from a part whose volatile state is cleared: all as from the part itself, PASS aside. -/
theorem clearVolatile_closesAs (w : Power) (m : Part) :
    ClosesAs (Part.clearVolatile { m with power := w }) m.closeLingering
      (Part.clearVolatile { m with power := w }).closeLingering :=
  ClosesAs.closeLingering ⟨_, rfl⟩

/-- A warm restart under a power state closes, returns and clears what the statements say (R107, R128, R174, R197). -/
theorem warmRestart_restarted (w : Power) (m : Part) : m.WarmRestarted (Part.warmRestart { m with power := w }) w := by
  obtain ⟨ports, hclosed⟩ := clearVolatile_closesAs w m
  have hitems := closeLingering_sameItems m
  have hsame : SameItems m (Part.clearVolatile { m with power := w }).closeLingering :=
    SameItems.trans (n := Part.clearVolatile { m with power := w }) ⟨rfl, rfl, rfl, rfl⟩ (closeLingering_sameItems _)
  obtain ⟨events, _, hports⟩ := closeLingering_signals (Part.clearVolatile { m with power := w })
  have hrestarted : Part.warmRestart { m with power := w } = { m with
      power := w
      intake := ⟨[], none⟩
      dir := m.closeLingering.dir
      stops := m.closeLingering.stops
      tamper := { m.closeLingering.tamper with pass := false }
      store := m.returnBatches.store
      strangers := m.returnBatches.strangers
      upload := m.returnBatches.upload
      ports := m.clearPorts.sampleDock.ports } := by
    rw [hclosed] at hports
    obtain rfl : ports = _ := hports
    rw [Part.warmRestart, returnBatches_of_sameItems hsame, hclosed]
    simp only [Part.withClose, Part.closeLingering_route]
    rfl
  rw [hrestarted]
  unfold Part.WarmRestarted
  dsimp only
  rw [← closeLingering_eq]
  refine ⟨fun hslots => ?_, rfl, rfl, rfl, rfl, rfl, rfl, rfl, rfl, rfl, returnBatches_batches m, returnBatches_counter m,
    m.returnBatches, returnBatches_moves m, rfl, rfl, rfl⟩
  have hagree := Part.slotsTrue_iff.mp hslots
  refine ⟨hagree.lingering_ascending, fun e he => ?_, fun e => closeLingering_not_lingering hagree⟩
  refine closeLingering_closes hagree ?_
  rw [lingering_eq]
  exact List.mem_map_of_mem he

/-! Power and RESET (R194 to R197) -/

section
variable {m : Part}

/-- With the RESET line held the start waits for the release (R194). -/
theorem powerUp_held (h : m.power.resetHeld = true) (kept : Bool) : m.powerUp kept = { m with
    power := ⟨true, if kept then m.power.marker else .invalid, true,
      some (startFor (if kept then m.power.marker else .invalid))⟩ } := by
  simp [Part.powerUp, h]

/-- With the RESET line released the start the marker calls for is made at once (R194). -/
theorem powerUp_free (h : m.power.resetHeld = false) (kept : Bool) : m.powerUp kept =
    Part.start (startFor (if kept then m.power.marker else .invalid))
      { m with power := ⟨true, if kept then m.power.marker else .invalid, false, none⟩ } := by
  simp [Part.powerUp, h]

/-- Memory that is not kept reads as an INVALID marker (R194). -/
theorem marker_invalid {kept : Bool} (h : kept = false ∨ m.power.marker = .invalid) :
    (if kept then m.power.marker else .invalid) = .invalid := by
  obtain rfl | h := h
  · rfl
  · rw [h, ite_self]

theorem assertReset_valid (hpowered : m.power.powered = true) (hmarker : m.power.marker = .valid) :
    m.assertReset = Part.warmRestart { m with power := { m.power with resetHeld := true } } := by
  simp [Part.assertReset, hpowered, hmarker]

theorem assertReset_invalid (hpowered : m.power.powered = true) (hmarker : m.power.marker = .invalid) :
    m.assertReset = { m.clearVolatile with power := { m.power with resetHeld := true, due := some .cold } } := by
  simp only [Part.assertReset, hpowered, hmarker, if_true]
  rfl

theorem assertReset_off (h : m.power.powered = false) :
    m.assertReset = { m with power := { m.power with resetHeld := true } } := by
  simp [Part.assertReset, h]

theorem releaseReset_off (h : m.power.powered = false) :
    m.releaseReset = { m with power := { m.power with resetHeld := false, due := none } } := by
  simp [Part.releaseReset, h]

variable (hpowered : m.power.powered = true)

include hpowered

theorem releaseReset_no_start (h : m.power.due = none) : m.releaseReset = Part.sampleDock
    { m with power := { m.power with resetHeld := false } } := by
  simp only [Part.releaseReset, hpowered, h, if_true]

theorem releaseReset_start {start : Start} (h : m.power.due = some start) : m.releaseReset =
    Part.start start { m with power := { m.power with resetHeld := false, due := none } } := by
  simp only [Part.releaseReset, hpowered, h, if_true]

end

/-- Settles O58: cold and warm starts, at once, held back and at the release; the warm ones restart as `warmRestart_restarted`
says. -/
theorem powerAndResetStartThePart : Obligations.PowerAndResetStartThePart := by
  refine fun s => ⟨fun kept hcold => ⟨fun hfree => becomes_of_act rfl ?_, fun hheld => becomes_of_act rfl ?_⟩,
    fun hvalid => ⟨fun hfree => ⟨_, becomes_of_act rfl ?_, warmRestart_restarted _ s.part⟩,
      fun hheld => becomes_of_act rfl ?_⟩,
    rfl, fun hpowered hvalid => ⟨_, becomes_of_act rfl (assertReset_valid hpowered hvalid), warmRestart_restarted _ s.part⟩,
    fun hpowered hinvalid => becomes_of_act rfl (assertReset_invalid hpowered hinvalid),
    fun hoff => becomes_of_act rfl (assertReset_off hoff), fun hoff => becomes_of_act rfl (releaseReset_off hoff),
    fun hpowered => ⟨fun hnone => becomes_of_act rfl (releaseReset_no_start hpowered hnone),
      fun hcold => becomes_of_act rfl (releaseReset_start hpowered hcold),
      fun hwarm => ⟨_, becomes_of_act rfl (releaseReset_start hpowered hwarm), warmRestart_restarted _ s.part⟩⟩⟩
  · rw [powerUp_free hfree, marker_invalid hcold]
    rfl
  · rw [powerUp_held hheld, marker_invalid hcold]
    rfl
  · rw [powerUp_free hfree, if_pos rfl, hvalid]
    rfl
  · rw [powerUp_held hheld, if_pos rfl, hvalid]
    rfl

end Sys2Proof.Machine
end

section
/-! SUPPORT. The bodies of the loading requests field by field (R64, R84, R201, R202): what a layout's bytes spell, and what its
parser reads there. -/

namespace Sys2Proof.Machine

/-! Codes of named values -/

theorem widthOf_eq_some_iff {n : Nat} {w : Width} : widthOf n = some w ↔ n = widthCode w := by
  constructor
  · intro h
    unfold widthOf at h
    split at h <;> cases h <;> rfl
  · rintro rfl
    cases w <;> rfl

theorem widthCode_lt (w : Width) : widthCode w < 256 := by cases w <;> decide

theorem timingOf_eq_some_iff {n : Nat} {t : Timing} : timingOf n = some t ↔ n = timingCode t := by
  constructor
  · intro h
    unfold timingOf at h
    split at h <;> cases h <;> rfl
  · rintro rfl
    cases t <;> rfl

theorem timingCode_lt (t : Timing) : timingCode t < 256 := by cases t <;> decide

/-- The clamp of R84. -/
theorem cleanCountOf_eq (n : Nat) : cleanCountOf n = max 1 (min 15 n) := by
  unfold cleanCountOf
  split_ifs <;> omega

/-! LOAD STOP -/

theorem loadStopBody_iff (body : List Byte) {f : LoadStopFields} (hstop : f.stop ≤ 511) (hlinger : f.lingerTime ≤ 255) :
    body = be16 f.stop ++ be8 (closeModeCode f.mode) ++ be8 f.lingerTime ↔
      body.length = 4 ∧ u16 body 0 = f.stop ∧ u8 body 2 = closeModeCode f.mode ∧ u8 body 3 = f.lingerTime := by
  rw [eq_layout_iff]
  simp only [List.append_assoc, drop_eq_be16_iff (show f.stop < 65536 by omega), drop_eq_be8_iff (closeModeCode_lt _),
    drop_eq_be8_iff (show f.lingerTime < 256 by omega), List.drop_eq_nil_iff]
  constructor
  · rintro ⟨_, hnumber, _, hmode, _, htime, _⟩
    exact ⟨by omega, hnumber, hmode, htime⟩
  · rintro ⟨_, hnumber, hmode, htime⟩
    exact ⟨by omega, hnumber, by omega, hmode, by omega, htime, by omega⟩

theorem loadStopOf_iff (body : List Byte) (f : LoadStopFields) : loadStopOf body = some f ↔
    f.stop ≤ 511 ∧ f.lingerTime ≤ 255 ∧ body = be16 f.stop ++ be8 (closeModeCode f.mode) ++ be8 f.lingerTime := by
  simp only [loadStopOf, Option.ite_none_right_eq_some, bind, Option.bind_eq_some_iff, stopNumberOf_eq_some_iff,
    closeModeOf_eq_some_iff, pure, Option.some_inj]
  constructor
  · rintro ⟨hlength, _, ⟨hrange, rfl⟩, mode, hmode, rfl⟩
    have hlinger := u8_lt body 3
    exact ⟨hrange, Nat.lt_succ_iff.mp hlinger,
      (loadStopBody_iff body hrange (Nat.lt_succ_iff.mp hlinger)).mpr ⟨hlength, rfl, hmode, rfl⟩⟩
  · rintro ⟨hrange, hlinger, hbody⟩
    obtain ⟨hlength, hstop, hmode, htime⟩ := (loadStopBody_iff body hrange hlinger).mp hbody
    exact ⟨hlength, f.stop, ⟨by omega, hstop⟩, f.mode, hmode, by rw [htime]⟩

/-! LOAD MEMBER -/

/-- The fields of a LOAD MEMBER body, each at its offset; the prior reading's two from offset 10 on, when present. -/
structure LoadMemberSpelt (body : List Byte) (f : LoadMemberFields) : Prop where
  number : u32 body 0 = f.key.number
  kind : u8 body 4 = kindCode f.key.kind
  stop : u16 body 5 = f.stop
  width : u8 body 7 = widthCode f.width
  profile : u8 body 8 = f.profile
  presence : u8 body 9 = if f.prior.isSome then 1 else 0
  length : body.length = if f.prior.isSome then 18 else 10
  prior : ∀ r, f.prior = some r → u32 body 10 = r.counter ∧ u32 body 14 = r.time

/-- The bytes up to the presence byte, and what is left after it. -/
theorem loadMemberFront_iff (body : List Byte) (key : Key) {stop profile flag : Nat} (width : Width) (hstop : stop ≤ 511)
    (hprofile : profile ≤ 15) (hflag : flag < 256) (z : List Byte) :
    body = be32 key.number ++ be8 (kindCode key.kind) ++ be16 stop ++ be8 (widthCode width) ++ be8 profile ++
        (be8 flag ++ z) ↔
      (u32 body 0 = key.number ∧ u8 body 4 = kindCode key.kind ∧ u16 body 5 = stop ∧ u8 body 7 = widthCode width ∧
        u8 body 8 = profile ∧ u8 body 9 = flag) ∧ 10 ≤ body.length ∧ body.drop 10 = z := by
  rw [eq_layout_iff]
  simp only [List.append_assoc, drop_eq_be32_iff, drop_eq_be8_iff (kindCode_lt _), drop_eq_be16_iff (show stop < 65536 by omega),
    drop_eq_be8_iff (widthCode_lt _), drop_eq_be8_iff (show profile < 256 by omega), drop_eq_be8_iff hflag, List.append_nil]
  constructor
  · rintro ⟨_, hnumber, _, hkind, _, hread, _, hwidth, _, hindex, _, hpresence, hrest⟩
    exact ⟨⟨hnumber, hkind, hread, hwidth, hindex, hpresence⟩, by omega, hrest⟩
  · rintro ⟨⟨hnumber, hkind, hread, hwidth, hindex, hpresence⟩, _, hrest⟩
    exact ⟨by omega, hnumber, by omega, hkind, by omega, hread, by omega, hwidth, by omega, hindex, by omega, hpresence,
      hrest⟩

theorem loadMemberBody_iff (body : List Byte) {f : LoadMemberFields} (hstop : f.stop ≤ 511) (hprofile : f.profile ≤ 15) :
    body = be32 f.key.number ++ be8 (kindCode f.key.kind) ++ be16 f.stop ++ be8 (widthCode f.width) ++
      be8 f.profile ++ (match f.prior with
        | none => be8 0
        | some r => be8 1 ++ be32 r.counter ++ be32 r.time) ↔ LoadMemberSpelt body f := by
  obtain ⟨key, stop, width, profile, prior⟩ := f
  cases prior
  case none =>
    refine (loadMemberFront_iff body key width hstop hprofile (by decide : 0 < 256) []).trans ?_
    rw [List.drop_eq_nil_iff]
    constructor
    · rintro ⟨⟨hnumber, hkind, hread, hwidth, hindex, habsent⟩, _, _⟩
      exact ⟨hnumber, hkind, hread, hwidth, hindex, habsent, show body.length = 10 by omega, nofun⟩
    · rintro ⟨hnumber, hkind, hread, hwidth, hindex, habsent, hlength, _⟩
      exact ⟨⟨hnumber, hkind, hread, hwidth, hindex, habsent⟩, hlength.ge, hlength.le⟩
  case some r =>
    refine (loadMemberFront_iff body key width hstop hprofile (by decide : 1 < 256) (be32 r.counter ++ (be32 r.time ++ []))).trans ?_
    rw [drop_eq_be32_iff, drop_eq_be32_iff, List.drop_eq_nil_iff]
    constructor
    · rintro ⟨⟨hnumber, hkind, hread, hwidth, hindex, hpresent⟩, _, _, hcounter, _, htime, _⟩
      refine ⟨hnumber, hkind, hread, hwidth, hindex, hpresent, show body.length = 18 by omega, fun _ h => ?_⟩
      cases h
      exact ⟨hcounter, htime⟩
    · rintro ⟨hnumber, hkind, hread, hwidth, hindex, hpresent, hlength, hprior⟩
      have hlength18 : body.length = 18 := hlength
      obtain ⟨hcounter, htime⟩ := hprior r rfl
      exact ⟨⟨hnumber, hkind, hread, hwidth, hindex, hpresent⟩, by omega, by omega, hcounter, by omega, htime, by omega⟩

theorem loadMemberOf_eq_some_iff (body : List Byte) (f : LoadMemberFields) :
    loadMemberOf body = some f ↔ f.stop ≤ 511 ∧ f.profile ≤ 15 ∧ LoadMemberSpelt body f := by
  simp only [loadMemberOf, Option.ite_none_right_eq_some, bind, Option.bind_eq_some_iff, keyOf_eq_some_iff,
    stopNumberOf_eq_some_iff, widthOf_eq_some_iff, flagOf_eq_some_iff, pure, Option.some_inj]
  constructor
  · rintro ⟨_, key, ⟨hnumber, hkind⟩, _, ⟨hstop, rfl⟩, width, hwidth, present, hpresence, ⟨hprofile, hlength⟩, rfl⟩
    refine ⟨hstop, Nat.lt_succ_iff.mp hprofile, ?_⟩
    cases present
    case false => exact ⟨hnumber, hkind, rfl, hwidth, rfl, hpresence, hlength, nofun⟩
    case true =>
      refine ⟨hnumber, hkind, rfl, hwidth, rfl, hpresence, hlength, fun _ h => ?_⟩
      cases h
      exact ⟨rfl, rfl⟩
  · obtain ⟨key, stop, width, profile, prior⟩ := f
    rintro ⟨hrange, hprofile, ⟨hnumber, hkind, rfl, hwidth, rfl, hpresence, hlength, hprior⟩⟩
    have hlengths : body.length = 10 ∨ body.length = 18 := hlength ▸ (ite_eq_or_eq ..).symm
    refine ⟨hlengths, key, ⟨hnumber, hkind⟩, _, ⟨hrange, rfl⟩, width, hwidth, prior.isSome, hpresence,
      ⟨Nat.lt_succ_iff.mpr hprofile, hlength⟩, ?_⟩
    cases prior
    case none => rfl
    case some r =>
      obtain ⟨hcounter, htime⟩ := hprior r rfl
      simp only [Option.isSome_some, if_true, hcounter, htime]

/-- 10 bytes without a prior reading, 18 with one (R8, R202). -/
theorem loadMemberOf_iff (body : List Byte) (f : LoadMemberFields) : loadMemberOf body = some f ↔
    f.stop ≤ 511 ∧ f.profile ≤ 15 ∧
    body = be32 f.key.number ++ be8 (kindCode f.key.kind) ++ be16 f.stop ++ be8 (widthCode f.width) ++
      be8 f.profile ++ (match f.prior with
        | none => be8 0
        | some r => be8 1 ++ be32 r.counter ++ be32 r.time) :=
  (loadMemberOf_eq_some_iff body f).trans
    (and_congr_right fun hstop => and_congr_right fun hprofile => (loadMemberBody_iff body hstop hprofile).symm)

/-! LOAD PROFILE -/

theorem loadProfileBody_iff (body : List Byte) {n : Nat} (hn : n ≤ 15) (p : Profile) :
    body = be8 n ++ be32 p.ceilShort ++ be32 p.ceilLong ++ be32 p.eshort ++ be32 p.elong ++
      be16 p.window.toNat ++ be16 p.zone.toNat ++ be32 p.idleSpan ↔
      body.length = 25 ∧ u8 body 0 = n ∧ (u32 body 1 = p.ceilShort ∧ u32 body 5 = p.ceilLong ∧ u32 body 9 = p.eshort ∧
        u32 body 13 = p.elong) ∧ u16 body 17 = p.window.toNat ∧ u16 body 19 = p.zone.toNat ∧ u32 body 21 = p.idleSpan := by
  rw [eq_layout_iff]
  simp only [List.append_assoc, drop_eq_be8_iff (show n < 256 by omega), drop_eq_be32_iff, drop_eq_be16_iff p.window.isLt,
    drop_eq_be16_iff p.zone.isLt, List.drop_eq_nil_iff]
  constructor
  · rintro ⟨_, hindex, _, hceilShort, _, hceilLong, _, heshort, _, helong, _, hwindow, _, hzone, _, hidle, _⟩
    exact ⟨by omega, hindex, ⟨hceilShort, hceilLong, heshort, helong⟩, hwindow, hzone, hidle⟩
  · rintro ⟨_, hindex, ⟨hceilShort, hceilLong, heshort, helong⟩, hwindow, hzone, hidle⟩
    exact ⟨by omega, hindex, by omega, hceilShort, by omega, hceilLong, by omega, heshort, by omega, helong, by omega,
      hwindow, by omega, hzone, by omega, hidle, by omega⟩

theorem ofNat_u16_eq_iff {body : List Byte} {i : Nat} {w : Word16} : BitVec.ofNat 16 (u16 body i) = w ↔ u16 body i = w.toNat := by
  rw [← BitVec.toNat_inj, BitVec.toNat_ofNat, Nat.mod_eq_of_lt (u16_lt body i)]

/-- Eshort is not 0 and below Elong (R64). -/
theorem loadProfileOf_iff (body : List Byte) (n : Nat) (p : Profile) : loadProfileOf body = some (n, p) ↔
    n ≤ 15 ∧ p.eshort ≠ 0 ∧ p.eshort.toNat < p.elong.toNat ∧
    body = be8 n ++ be32 p.ceilShort ++ be32 p.ceilLong ++ be32 p.eshort ++ be32 p.elong ++
      be16 p.window.toNat ++ be16 p.zone.toNat ++ be32 p.idleSpan := by
  rw [loadProfileOf, Option.ite_none_right_eq_some, Option.some_inj, Prod.mk.injEq]
  constructor
  · rintro ⟨⟨hlength, hindex, hzero, hbelow⟩, rfl, rfl⟩
    have hn := Nat.lt_succ_iff.mp hindex
    exact ⟨hn, hzero, hbelow, (loadProfileBody_iff body hn _).mpr
      ⟨hlength, rfl, ⟨rfl, rfl, rfl, rfl⟩, ofNat_u16_eq_iff.mp rfl, ofNat_u16_eq_iff.mp rfl, rfl⟩⟩
  · rintro ⟨hn, hzero, hbelow, hbody⟩
    obtain ⟨hlength, hindex, ⟨hceilShort, hceilLong, heshort, helong⟩, hwindow, hzone, hidle⟩ :=
      (loadProfileBody_iff body hn p).mp hbody
    rw [hceilShort, hceilLong, heshort, helong, ofNat_u16_eq_iff.mpr hwindow, ofNat_u16_eq_iff.mpr hzone, hidle]
    exact ⟨⟨hlength, by omega, hzero, hbelow⟩, hindex, rfl⟩

/-! LOAD CLASS -/

theorem loadClassBody_iff (body : List Byte) {n : Nat} (hn : n ≤ 3) (c : ClassRecord) (mode count : Byte) :
    body = be8 n ++ be16 c.mask.toNat ++ [mode] ++ be8 (timingCode c.timing) ++ be8 (flagCode c.stall) ++ [count] ↔
      body.length = 7 ∧ u8 body 0 = n ∧ u16 body 1 = c.mask.toNat ∧ byteAt body 3 = mode ∧
        u8 body 4 = timingCode c.timing ∧ u8 body 5 = flagCode c.stall ∧ byteAt body 6 = count := by
  have hmask : c.mask.toNat < 65536 := c.mask.isLt.trans (by decide)
  rw [eq_layout_iff]
  simp only [List.append_assoc, List.cons_append, List.nil_append, drop_eq_be8_iff (show n < 256 by omega),
    drop_eq_be16_iff hmask, drop_eq_be8_iff (timingCode_lt _), drop_eq_be8_iff (n := flagCode c.stall) (flag_lt _),
    drop_eq_cons_iff, List.drop_eq_nil_iff]
  constructor
  · rintro ⟨_, hclass, _, hset, _, hmode, _, htiming, _, hstall, _, hcount, _⟩
    exact ⟨by omega, hclass, hset, hmode, htiming, hstall, hcount⟩
  · rintro ⟨_, hclass, hset, hmode, htiming, hstall, hcount⟩
    exact ⟨by omega, hclass, by omega, hset, by omega, hmode, by omega, htiming, by omega, hstall, by omega, hcount, by omega⟩

/-- The clean count is any byte, stored clamped to 1 to 15 (R84). -/
theorem loadClassOf_iff (body : List Byte) (n : Nat) (c : ClassRecord) : loadClassOf body = some (n, c) ↔
    n ≤ 3 ∧ ∃ mode count : Byte, classModeOf mode.toNat = some c.mode ∧ c.clean = max 1 (min 15 count.toNat) ∧
      body = be8 n ++ be16 c.mask.toNat ++ [mode] ++ be8 (timingCode c.timing) ++ be8 (flagCode c.stall) ++ [count] := by
  simp only [loadClassOf, Option.ite_none_right_eq_some, bind, Option.bind_eq_some_iff, setOf_eq_some_iff,
    timingOf_eq_some_iff, flagOf_eq_some_iff, pure, Option.some_inj, Prod.mk.injEq, cleanCountOf_eq]
  constructor
  · rintro ⟨⟨hlength, hclass⟩, mask, hmask, mode, hmode, timing, htiming, stall, hstall, rfl, rfl⟩
    have hn := Nat.lt_succ_iff.mp hclass
    exact ⟨hn, byteAt body 3, byteAt body 6, hmode, rfl,
      (loadClassBody_iff body hn _ _ _).mpr ⟨hlength, rfl, hmask, rfl, htiming, hstall, rfl⟩⟩
  · rintro ⟨hn, _, _, hmode, hclean, hbody⟩
    obtain ⟨hlength, hclass, hmask, rfl, htiming, hstall, rfl⟩ := (loadClassBody_iff body hn c _ _).mp hbody
    exact ⟨⟨hlength, by omega⟩, c.mask, hmask, c.mode, hmode, c.timing, htiming, c.stall, hstall, hclass,
      by rw [u8, ← hclean]⟩

/-- Settles O35, one lemma for each request's body. -/
theorem loadingBodyLayouts : Obligations.LoadingBodyLayouts :=
  ⟨loadStopOf_iff, loadMemberOf_iff, loadProfileOf_iff, loadClassOf_iff⟩

end Sys2Proof.Machine
end

section
/-! SUPPORT. Upload items on the line (R200, R203): the length of each field and of each group's item, and a batch's body. -/

namespace Sys2Proof.Machine

/-! Lengths of fields -/

@[simp] theorem be8_length (n : Nat) : (be8 n).length = 1 := rfl

@[simp] theorem be16_length (n : Nat) : (be16 n).length = 2 := rfl

@[simp] theorem be32_length (w : Word32) : (be32 w).length = 4 := rfl

@[simp] theorem keyBytes_length (k : Key) : (keyBytes k).length = 5 := rfl

@[simp] theorem optional16_length (n : Option Nat) : (optional16 n).length = 2 := rfl

@[simp] theorem set8_length {w : Nat} (s : BitVec w) : (set8 s).length = 1 := rfl

@[simp] theorem set16_length {w : Nat} (s : BitVec w) : (set16 s).length = 2 := rfl

@[simp] theorem rateBytes_length (rate ceiling : Option Word32) : (rateBytes rate ceiling).length = 9 := rfl

/-- A flag is sent as the byte 1 or 0 (R201). -/
theorem be8_flagCode (b : Bool) : be8 (flagCode b) = [if b then 1 else 0] := by cases b <;> rfl

/-! Items -/

/-- The rate and the ceiling share one presence byte, and an absent value is sent as 0 (R200). -/
theorem itemBytes_reading (r : Record) : itemBytes (.reading r) = [1] ++ be16 r.index ++ be32 r.key.number ++
    be8 (kindCode r.key.kind) ++ be32 r.counter ++ be32 r.time ++ be32 r.firstHeard ++
    be16 (r.leadStop.getD 0xFFFF) ++ be8 r.hearings ++ [r.signal] ++ [if r.batteryLow then 1 else 0] ++
    be16 r.indicators.toNat ++ be8 r.fired.toNat ++
    [if r.rate.isSome then 1 else 0] ++ be32 (r.rate.getD 0) ++ be32 (r.ceiling.getD 0) ++
    be8 (uploadStateCode r.upload) ++ be16 (r.batch.getD 0) := by
  have hgroup : be8 1 = [1] := rfl
  simp only [itemBytes, keyBytes, optional16, set16, set8, rateBytes, be8_flagCode, hgroup, List.append_assoc]

theorem itemBytes_miss (k : Key) (stop : Nat) (t : TamperState) (latched : ClassSet) :
    itemBytes (.miss k stop t latched) = [2] ++ be32 k.number ++ be8 (kindCode k.kind) ++
      be16 stop ++ be8 (tamperStateCode t) ++ be8 latched.toNat := rfl

theorem itemBytes_stranger (p : Nat) (e : Stranger) :
    itemBytes (.stranger p e) = [3] ++ be8 p ++ be32 e.key.number ++ be8 (kindCode e.key.kind) ++
      be8 e.hearings ++ be32 e.firstHeard ++ be16 (e.firstStop.getD 0xFFFF) ++ be32 e.counter ++ [e.signal] := rfl

/-- The widths of R203's three tables, item number left aside. -/
def itemWidth : ItemContent → Nat
  | .reading _ => 40
  | .miss .. => 10
  | .stranger .. => 19

theorem itemBytes_length (i : ItemContent) : (itemBytes i).length = itemWidth i := by
  cases i <;> simp [itemBytes, itemWidth]

theorem numbered_itemBytes_length (n : Nat) (i : ItemContent) : (be16 n ++ itemBytes i).length = itemWidth i + 2 := by
  rw [List.length_append, be16_length, itemBytes_length, Nat.add_comm]

/-- The confirm time of 20 seconds stands in the second field (R166), the items' count before their list (R200). -/
theorem bodyBytes_batch (number : Nat) (items : List (Nat × ItemContent)) : bodyBytes (.batch number items) =
    be16 number ++ [20] ++ be8 items.length ++ items.flatMap (fun e => be16 e.1 ++ itemBytes e.2) := rfl

/-- Settles O60: each group's fields, with the item's number before them, and the batch that carries items. -/
theorem uploadItemsLaidOut : Obligations.UploadItemsLaidOut := by
  refine ⟨fun n r => ⟨?_, numbered_itemBytes_length n _⟩, fun n k stop t latched => ⟨?_, numbered_itemBytes_length n _⟩,
    fun n p e => ⟨?_, numbered_itemBytes_length n _⟩, bodyBytes_batch⟩
  · simp only [itemBytes_reading, List.append_assoc]
  · simp only [itemBytes_miss, List.append_assoc]
  · simp only [itemBytes_stranger, List.append_assoc]

end Sys2Proof.Machine
end

section
/-! SUPPORT. One step: the command at the front of the queue, or idling (log 2); no command stops the part. -/

namespace Sys2Proof.Machine

/-! Steps by the queue -/

@[simp] theorem step_cons (c : Instr) (m : Part) (rest : List Instr) : step ⟨m, c :: rest⟩ = exec c ⟨m, rest⟩ := rfl

@[simp] theorem step_nil (m : Part) : step ⟨m, []⟩ = .next ⟨m, []⟩ := rfl

/-! Commands -/

/-- Every command acts on the part alone: a frame command as its frame coming in, every other command as its event. -/
theorem exec_acts (c : Instr) (s : State) : ∃ f : Part → Part, exec c s = act f s := by
  cases hc : frameOfCommand c with
  | none =>
    obtain ⟨f, hact, -⟩ := exec_unframed hc s
    exact ⟨f, hact⟩
  | some lf =>
    obtain ⟨l, f⟩ := lf
    exact ⟨frameEvent l f (judge l f), exec_frame_judged hc s⟩

theorem exec_becomes (c : Instr) (s : State) : ∃ m : Part, Becomes c s m := by
  obtain ⟨f, hact⟩ := exec_acts c s
  exact ⟨f s.part, becomes_of_act hact rfl⟩

/-- Settles O1: a step by the shape of the queue, and every command acts on the part alone. -/
theorem stepRunsTheFrontCommand : Obligations.StepRunsTheFrontCommand :=
  ⟨step_cons, step_nil, exec_becomes⟩

end Sys2Proof.Machine
end
